-- ==== Sys2Proof/Word.lean ====
section
/-! DEFINITION. The word types of the block: bytes, 16-bit command and measurement words, 32-bit operation and
result words (spec/00_scope.md section 5, spec/30_encoding.md R60, R66). -/

namespace Sys2Proof

/-- A byte: 8 bits (spec/00_scope.md section 5, Numbers). -/
abbrev Byte := BitVec 8

/-- A command word or a measurement word: 16 bits (spec/30_encoding.md R66, spec/44_fields.md R160). -/
abbrev Word16 := BitVec 16

/-- An operation word `OP` or a result word `RES`: 32 bits (spec/30_encoding.md R60). -/
abbrev Word32 := BitVec 32

end Sys2Proof
end

