-- ==== Sys2Proof/Syntax.lean ====
section
/-! DEFINITION. The instructions: one constructor for each row of spec/opcode_table.json, 25 operations of format
OP32 (spec/30_encoding.md R62, R63) and 11 command words of format CMD16 (R66, R67); and the words the host can put
on the operation port. -/

namespace Sys2Proof

/-- A word on the operation port.
`op32` is the spec's operation word (spec/30_encoding.md R60, R61).
`cmd16` is a command word given alone, the other format of spec/opcode_table.json. DESIGN CHOICE (log 2): it stands
for the LOAD_CMD that carries it (R66, R74). -/
inductive PortWord where
  | op32 (w : Word32)
  | cmd16 (w : Word16)
  deriving DecidableEq, Repr

/-- The instructions, operands at the exact widths of spec/30_encoding.md R63. -/
inductive Instr where
  -- sequencing, spec/43_sequencer.md
  | loadCmd (cmdw : Word16)
  | push (b : Byte)
  | endFrame
  | abort
  | rdStatus
  -- checksum, spec/40_checksum.md
  | crcCompute (w0 w1 : Byte)
  | crcVerify (w0 w1 rx : Byte)
  -- field reads, spec/44_fields.md
  | rdByte (addr : BitVec 7)
  | rdFlag (byteix : BitVec 2) (bitix : BitVec 3)
  | rdDataReady
  -- named flags, spec/44_fields.md
  | flagFanSpeedWarning
  | flagPmError
  | flagCo2Error
  | flagGasError
  | flagRhtError
  | flagFanError
  -- measurement words, spec/44_fields.md
  | measPm1_0
  | measPm2_5
  | measPm4_0
  | measPm10_0
  | measHumidity
  | measTemperature
  | measVoc
  | measNox
  | measCo2
  -- command words, spec/42_catalog.md
  | getProductName
  | getSerialNumber
  | getDataReady
  | readDeviceStatus
  | readAndClearDeviceStatus
  | readMeasuredValues
  | startContinuousMeasurement
  | stopMeasurement
  | deviceReset
  | startFanCleaning
  | activateShtHeater
  deriving DecidableEq, Repr

end Sys2Proof
end

