-- ==== Sys2Proof/WellFormed.lean ====
section
/-! DEFINITION. Which instructions and which port words are well formed.
Every operand of `Instr` has exactly the width its field has, so no operand can be out of range and every
instruction is well formed (spec/30_encoding.md R73: the one out-of-range value, an RD_BYTE address of 0x58 or more,
is a legal operation whose byte is unspecified). The checks are on the port words: an operation word has a defined
OPSEL (R71) and, in the form an assembler writes, 0 in every ignored ARG bit (R74). -/

namespace Sys2Proof

/-- Every instruction is well formed: the operand types hold exactly the values the fields can hold. -/
def Instr.wf : Instr → Bool
  | .loadCmd _ | .push _ | .endFrame | .abort | .rdStatus
  | .crcCompute _ _ | .crcVerify _ _ _
  | .rdByte _ | .rdFlag _ _ | .rdDataReady
  | .flagFanSpeedWarning | .flagPmError | .flagCo2Error | .flagGasError | .flagRhtError | .flagFanError
  | .measPm1_0 | .measPm2_5 | .measPm4_0 | .measPm10_0 | .measHumidity | .measTemperature | .measVoc | .measNox
  | .measCo2
  | .getProductName | .getSerialNumber | .getDataReady | .readDeviceStatus | .readAndClearDeviceStatus
  | .readMeasuredValues | .startContinuousMeasurement | .stopMeasurement | .deviceReset | .startFanCleaning
  | .activateShtHeater => true

/-- OPSEL names an operation: the complement of the reserved list of spec/30_encoding.md R71, written from that
list. -/
def opselDefined (opsel : BitVec 8) : Bool :=
  let n := opsel.toNat
  !(n = 0x00 || (0x05 ≤ n && n ≤ 0x07) || (0x09 ≤ n && n ≤ 0x0F) || (0x12 ≤ n && n ≤ 0x1F)
    || (0x23 ≤ n && n ≤ 0x2F) || (0x36 ≤ n && n ≤ 0x3F) || 0x49 ≤ n)

/-- How many low ARG bits the operation names (spec/30_encoding.md R63): the named fields of every operation fill
its low bits without a gap, and the bits above are ignored (R64). -/
def argBits (opsel : BitVec 8) : Nat :=
  match opsel.toNat with
  | 0x01 => 16
  | 0x02 => 8
  | 0x10 => 16
  | 0x11 => 24
  | 0x20 => 7
  | 0x21 => 5
  | _ => 0

/-- The eleven command words of spec/30_encoding.md R67, in its order. -/
def commandWords : List Word16 :=
  [0xD014, 0xD033, 0x0202, 0xD206, 0xD210, 0x0300, 0x0021, 0x0104, 0xD304, 0x5607, 0x6765]

/-- A port word in the form an assembler writes: an operation word with a defined OPSEL (R71) and zeros in the ARG
bits that R63 does not name (R74), or a bare command word of the catalogue (R67). -/
def PortWord.canonical : PortWord → Bool
  | .op32 w =>
    opselDefined (w.extractLsb' 24 8) && (w.extractLsb' 0 24).toNat < 2 ^ argBits (w.extractLsb' 24 8)
  | .cmd16 w => commandWords.contains w

end Sys2Proof
end

