-- ==== Sys2Proof/Decode.lean ====
section
/-! DEFINITION. The decoder, total on every port word, and the encoder, both written from spec/30_encoding.md R61 to
R67. A reserved OPSEL decodes to nothing (R71). -/

namespace Sys2Proof

/-- OPSEL = OP[31:24] (spec/30_encoding.md R61). -/
def opsel (w : Word32) : BitVec 8 := w.extractLsb' 24 8

/-- The operation an OP32 word names: match OPSEL against R62, then take the fields R63 names; every other ARG bit
is ignored (R64). A reserved OPSEL matches nothing (R71). -/
def decodeOp32 (w : Word32) : Option Instr :=
  match (opsel w).toNat with
  | 0x01 => some (.loadCmd (w.extractLsb' 0 16))
  | 0x02 => some (.push (w.extractLsb' 0 8))
  | 0x03 => some .endFrame
  | 0x04 => some .abort
  | 0x08 => some .rdStatus
  | 0x10 => some (.crcCompute (w.extractLsb' 8 8) (w.extractLsb' 0 8))
  | 0x11 => some (.crcVerify (w.extractLsb' 16 8) (w.extractLsb' 8 8) (w.extractLsb' 0 8))
  | 0x20 => some (.rdByte (w.extractLsb' 0 7))
  | 0x21 => some (.rdFlag (w.extractLsb' 3 2) (w.extractLsb' 0 3))
  | 0x22 => some .rdDataReady
  | 0x30 => some .flagFanSpeedWarning
  | 0x31 => some .flagPmError
  | 0x32 => some .flagCo2Error
  | 0x33 => some .flagGasError
  | 0x34 => some .flagRhtError
  | 0x35 => some .flagFanError
  | 0x40 => some .measPm1_0
  | 0x41 => some .measPm2_5
  | 0x42 => some .measPm4_0
  | 0x43 => some .measPm10_0
  | 0x44 => some .measHumidity
  | 0x45 => some .measTemperature
  | 0x46 => some .measVoc
  | 0x47 => some .measNox
  | 0x48 => some .measCo2
  | _ => none

/-- The command a bare CMD16 word names, all 16 bits together (R66, R67). A word outside the table is unknown, not
reserved (R72): it is the LOAD_CMD of that word, which rejects it (log 2). -/
def decodeCmd16 (w : Word16) : Instr :=
  match w.toNat with
  | 0xD014 => .getProductName
  | 0xD033 => .getSerialNumber
  | 0x0202 => .getDataReady
  | 0xD206 => .readDeviceStatus
  | 0xD210 => .readAndClearDeviceStatus
  | 0x0300 => .readMeasuredValues
  | 0x0021 => .startContinuousMeasurement
  | 0x0104 => .stopMeasurement
  | 0xD304 => .deviceReset
  | 0x5607 => .startFanCleaning
  | 0x6765 => .activateShtHeater
  | _ => .loadCmd w

/-- The decoder. -/
def decode : PortWord → Option Instr
  | .op32 w => decodeOp32 w
  | .cmd16 w => some (decodeCmd16 w)

/-- An operation word from its OPSEL and ARG (R61). -/
def op32 (sel : BitVec 8) (arg : BitVec 24) : PortWord := .op32 (sel ++ arg)

/-- The encoder: the word of an instruction, with 0 in every ignored ARG bit (R61 to R63, R67, R74). -/
def encode : Instr → PortWord
  | .loadCmd w => op32 0x01 (0#8 ++ w)
  | .push b => op32 0x02 (0#16 ++ b)
  | .endFrame => op32 0x03 0
  | .abort => op32 0x04 0
  | .rdStatus => op32 0x08 0
  | .crcCompute w0 w1 => op32 0x10 (0#8 ++ (w0 ++ w1))
  | .crcVerify w0 w1 rx => op32 0x11 (w0 ++ (w1 ++ rx))
  | .rdByte a => op32 0x20 (0#17 ++ a)
  | .rdFlag y i => op32 0x21 (0#19 ++ (y ++ i))
  | .rdDataReady => op32 0x22 0
  | .flagFanSpeedWarning => op32 0x30 0
  | .flagPmError => op32 0x31 0
  | .flagCo2Error => op32 0x32 0
  | .flagGasError => op32 0x33 0
  | .flagRhtError => op32 0x34 0
  | .flagFanError => op32 0x35 0
  | .measPm1_0 => op32 0x40 0
  | .measPm2_5 => op32 0x41 0
  | .measPm4_0 => op32 0x42 0
  | .measPm10_0 => op32 0x43 0
  | .measHumidity => op32 0x44 0
  | .measTemperature => op32 0x45 0
  | .measVoc => op32 0x46 0
  | .measNox => op32 0x47 0
  | .measCo2 => op32 0x48 0
  | .getProductName => .cmd16 0xD014
  | .getSerialNumber => .cmd16 0xD033
  | .getDataReady => .cmd16 0x0202
  | .readDeviceStatus => .cmd16 0xD206
  | .readAndClearDeviceStatus => .cmd16 0xD210
  | .readMeasuredValues => .cmd16 0x0300
  | .startContinuousMeasurement => .cmd16 0x0021
  | .stopMeasurement => .cmd16 0x0104
  | .deviceReset => .cmd16 0xD304
  | .startFanCleaning => .cmd16 0x5607
  | .activateShtHeater => .cmd16 0x6765

/-- The port word for a row of spec/opcode_table.json: a row of 16 bits is a bare command word, a row of 32 bits an
operation word. A port word has no byte order: bit i of the number is bit i of the word (log 15). -/
def tableWord (nbits w : Nat) : PortWord :=
  if nbits ≤ 16 then .cmd16 (BitVec.ofNat 16 w) else .op32 (BitVec.ofNat 32 w)

/-- The instruction the decoder reads from a table row's bits. -/
def decodeTableWord (nbits w : Nat) : Option Instr := decode (tableWord nbits w)

end Sys2Proof
end

