-- ==== Sys2Proof/Config.lean ====
section
/-! DEFINITION. What is fixed for the block and does not change as it runs: sizes, the destinations a command can
have, the shape of a catalogue entry (spec/10_state.md R28), and the one free value the spec leaves open.
The parameters whose literals the spec calls unaudited (checksum, reset fill, catalogue, flag map) are in
Machine/Params.lean. -/

namespace Sys2Proof

/-- The snapshot field a command's payload goes to (spec/10_state.md R17). The codes 6 and 7 that R17 says never
occur have no constructor (spec/93_implementation_defined.md U7; log 9). -/
inductive Dest where
  | none
  | productName
  | serialNumber
  | dataReady
  | deviceStatus
  | measuredValues
  deriving DecidableEq, Repr

/-- One row of the command catalogue (spec/42_catalog.md, the transcribed table). `execMs` is the fourth column:
the host's, read by nothing in the block (spec/70_reset_and_hazards.md R201; log 13). -/
structure CatalogEntry where
  word : Word16
  rlen : BitVec 6
  dest : Dest
  execMs : Nat
  deriving DecidableEq, Repr

/-- SNAP_BYTES: the snapshot is 88 bytes, addresses 0x00 to 0x57 (spec/00_scope.md R4, spec/20_memory.md R40). -/
abbrev Config.snapBytes : Nat := 88

/-- STG_BYTES: the staging buffer is 32 bytes (spec/00_scope.md R4, spec/10_state.md R25). -/
abbrev Config.stgBytes : Nat := 32

/-- CHUNK_BYTES: a chunk is 3 bytes (spec/00_scope.md R4, spec/30_encoding.md R68). -/
abbrev Config.chunkBytes : Nat := 3

/-- TOLERANCE_SHIFT, outside the block, informative (spec/00_scope.md R4, spec/70_reset_and_hazards.md R200). -/
abbrev Config.toleranceShift : Nat := 3

/-- FREE VALUE (log 5). The byte an RD_BYTE of an address 0x58 to 0x7F returns is unspecified
(spec/20_memory.md R42, spec/93_implementation_defined.md U3): one value for each draw, about which nothing can be
proved. -/
opaque Config.freeByte : Nat → Byte

end Sys2Proof
end

