-- ==== Sys2Proof/Machine/Params.lean ====
section
/-! DEFINITION. The parameters of the block with the values the spec gives them (spec/00_scope.md R4); the spec calls
their literals unaudited, so each stands here once, by name. -/

namespace Sys2Proof.Machine

/-- CRC_POLY (spec/00_scope.md R4, spec/40_checksum.md R81). -/
def crcPoly : Byte := 0x31

/-- CRC_INIT (spec/00_scope.md R4, spec/40_checksum.md R80). -/
def crcInit : Byte := 0xFF

/-- NAME_FILL, the reset fill of the identity strings (spec/10_state.md R10, R11). -/
def nameFill : Byte := 0x15

/-- The reset fill of `data_ready` (spec/10_state.md R12). -/
def readyFill : Byte := 0x00

/-- The reset fill of `device_status` and `measured_values` (spec/10_state.md R13, R14). -/
def onesFill : Byte := 0xFF

/-- CATALOG: the eleven rows of the command catalogue (spec/42_catalog.md, the transcribed table, R100 to R110;
spec/90_conflicts.md C3: these and no others). -/
def catalog : List CatalogEntry := [
  ⟨0xD014, 48, .productName, 20⟩,
  ⟨0xD033, 48, .serialNumber, 20⟩,
  ⟨0x0202, 3, .dataReady, 20⟩,
  ⟨0xD206, 6, .deviceStatus, 20⟩,
  ⟨0xD210, 6, .deviceStatus, 20⟩,
  ⟨0x0300, 27, .measuredValues, 20⟩,
  ⟨0x0021, 0, .none, 50⟩,
  ⟨0x0104, 0, .none, 1000⟩,
  ⟨0xD304, 0, .none, 1200⟩,
  ⟨0x5607, 0, .none, 10020⟩,
  ⟨0x6765, 0, .none, 21300⟩]

/-! FLAG_MAP: the (byte, bit) pair of each named flag (spec/44_fields.md R142). -/

/-- fan-speed warning: byte 1, bit 5. -/
def fanSpeedWarningAt : BitVec 2 × BitVec 3 := (1, 5)

/-- particulate-matter-sensor error: byte 2, bit 1. The same place as the CO2-sensor error: the spec follows the
document's literal (spec/90_conflicts.md C5). -/
def pmErrorAt : BitVec 2 × BitVec 3 := (2, 1)

/-- CO2-sensor error: byte 2, bit 1 (spec/90_conflicts.md C5). -/
def co2ErrorAt : BitVec 2 × BitVec 3 := (2, 1)

/-- gas-sensor error: byte 3, bit 7. -/
def gasErrorAt : BitVec 2 × BitVec 3 := (3, 7)

/-- humidity/temperature-sensor error: byte 3, bit 6. -/
def rhtErrorAt : BitVec 2 × BitVec 3 := (3, 6)

/-- fan error: byte 3, bit 4. -/
def fanErrorAt : BitVec 2 × BitVec 3 := (3, 4)

end Sys2Proof.Machine
end

