-- ==== Sys2Proof/Machine/State.lean ====
section
/-! DEFINITION. The state of the block (spec/10_state.md R10 to R28), its stops, and the state after reset
(spec/70_reset_and_hazards.md R191). -/

namespace Sys2Proof.Machine

/-- PHASE: where the block is in the exchange (spec/10_state.md R18). -/
inductive Phase where
  | idle
  | receiving
  | validated
  | rejected
  deriving DecidableEq, Repr

/-- RESULT: how the last exchange ended (spec/10_state.md R20, spec/60_exceptions.md R170). The code 7 that R20 says
never occurs has no constructor (spec/93_implementation_defined.md U7; log 9). -/
inductive Result where
  | none
  | ok
  | checksumError
  | lengthError
  | transportError
  | unknownCommand
  | protocolError
  deriving DecidableEq, Repr

/-- The snapshot bytes that differ from what an unlisted address reads as, as (address, byte) cells, addresses
strictly rising (`Memory.wf` in Machine/Ops.lean; log 8). -/
abbrev Memory := List Host.Cell

/-- One thing the host does to the block: give an operation (spec/30_encoding.md R60) or apply reset
(spec/70_reset_and_hazards.md R190). -/
inductive HostInput where
  | word (p : PortWord)
  | reset
  deriving DecidableEq, Repr

/-- The state of RXV. -/
structure State where
  /-- SNAP, the 88-byte snapshot (spec/10_state.md R10 to R15, spec/20_memory.md R41). -/
  snap : Memory
  /-- CMDREG (R16). -/
  cmdreg : Word16
  /-- RLEN (R17). -/
  rlen : BitVec 6
  /-- DEST (R17). -/
  dest : Dest
  /-- PHASE (R18). -/
  phase : Phase
  /-- CNT (R19). -/
  cnt : BitVec 6
  /-- RESULT (R20). -/
  result : Result
  /-- HI, hidden (R22). -/
  hi : Byte
  /-- LO, hidden (R22). -/
  lo : Byte
  /-- BAD, hidden, sticky within a frame (R23). -/
  bad : Bool
  /-- OVERRUN, hidden, sticky within a frame (R24). -/
  overrun : Bool
  /-- STG, hidden, the staging buffer (R25). -/
  stg : Vector Byte 32
  /-- RES, the result word of the last operation (spec/30_encoding.md R60, R65; log 4). -/
  res : Word32
  /-- What the host gives next, first first (spec/10_state.md R27, spec/20_memory.md R49; log 1). -/
  inputs : List HostInput
  /-- The model's own counter: which free value is drawn next (log 5). -/
  freeCount : Nat
  deriving DecidableEq, Repr

/-- The block has no fault: every failure is a rejection, a next state (spec/60_exceptions.md R176). Nothing raises
a fault, so the type has no constructor. -/
inductive Fault where
  deriving DecidableEq, Repr

/-- Why a step has no meaning. -/
inductive Refusal where
  /-- An instruction without a meaning yet, by its mnemonic: only an arm of `exec` may answer this; none does. Safe:
  the run stops. -/
  | notModelled (mnemonic : String)
  /-- Raised by `step` on an operation word whose OPSEL is reserved: the spec leaves the behaviour undefined and says
  "a model refuses the operation" (spec/30_encoding.md R71, spec/93_implementation_defined.md U1; log 11). Safe: the
  run stops. -/
  | reservedOpsel
  deriving DecidableEq, Repr

/-- The state after reset (spec/70_reset_and_hazards.md R191). The snapshot lists nothing: every byte reads as its
reset fill. DESIGN CHOICE 0 for HI, LO, STG, which R191 leaves unspecified (log 3), and for RES (log 4); nothing is
pending on the port (log 1); the free-value counter starts at 0 (log 5). -/
def State.reset : State where
  snap := []
  cmdreg := 0x0000
  rlen := 0
  dest := .none
  phase := .idle
  cnt := 0
  result := .none
  hi := 0
  lo := 0
  bad := false
  overrun := false
  stg := Vector.replicate 32 0
  res := 0
  inputs := []
  freeCount := 0

end Sys2Proof.Machine
end

