-- ==== Sys2Proof/Machine/Ops.lean ====
section
/-! DEFINITION. The named operations: the snapshot memory, the updates of the registers, the rejection of an exchange
(the block's exception entry, spec/60_exceptions.md R176) with the start of a new one beside it (R180), the reset
event, and taking the next word from the operation port. -/

namespace Sys2Proof.Machine

/-! ## The snapshot memory -/

/-- A snapshot address that holds a byte: 0x00 to 0x57 (spec/20_memory.md R41). -/
abbrev SnapAddr := Fin Config.snapBytes

/-- What an unlisted snapshot address reads as: the reset fill of the field it lies in
(spec/10_state.md R10 to R14, spec/20_memory.md R41). Asked only of addresses below 0x58. -/
def resetByte (a : Nat) : Byte :=
  if a < 0x40 then nameFill else if a < 0x42 then readyFill else onesFill

/-- The canonical form: addresses strictly rising, each of them a snapshot address, and no cell equal to what an
unlisted address reads as (log 8). -/
abbrev Memory.wf (m : Memory) : Prop :=
  m.Pairwise (fun c d => c.1 < d.1) ∧ ∀ c ∈ m, c.1 < Config.snapBytes ∧ c.2 ≠ resetByte c.1

/-- The byte at a snapshot address. -/
def Memory.cell (m : Memory) (a : SnapAddr) : Byte :=
  (m.lookup a.val).getD (resetByte a.val)

/-- The byte at any address; 0x58 and above hold nothing (spec/20_memory.md R42). -/
def Memory.read (m : Memory) (a : Nat) : Option Byte :=
  if h : a < Config.snapBytes then some (m.cell ⟨a, h⟩) else none

/-- Put a cell into a rising list, in the place of one with its address. -/
def Memory.put (a : Nat) (b : Byte) : Memory → Memory
  | [] => [(a, b)]
  | (k, v) :: t =>
    if a < k then (a, b) :: (k, v) :: t
    else if a = k then (a, b) :: t
    else (k, v) :: Memory.put a b t

/-- Write one byte. Nothing can be written at 0x58 or above (spec/20_memory.md R42); writing what an unlisted
address reads as removes the cell. -/
def Memory.write (m : Memory) (a : Nat) (b : Byte) : Memory :=
  if a < Config.snapBytes then
    if b = resetByte a then m.filter (fun c => c.1 ≠ a) else Memory.put a b m
  else m

/-- `MemWrite(a, n, bs)`: the bytes in order from address `a` (spec/00_scope.md section 5). -/
def Memory.writeBytes : Memory → Nat → List Byte → Memory
  | m, _, [] => m
  | m, a, b :: bs => Memory.writeBytes (m.write a b) (a + 1) bs

/-! ## Where a destination lies -/

/-- `base(DEST)` (spec/20_memory.md R41). With DEST = NONE nothing is written and the base is not used. -/
def destBase : Dest → Nat
  | .none => 0x00
  | .productName => 0x00
  | .serialNumber => 0x20
  | .dataReady => 0x40
  | .deviceStatus => 0x42
  | .measuredValues => 0x46

/-- `size(DEST)` (spec/20_memory.md R41). -/
def destSize : Dest → Nat
  | .none => 0
  | .productName => 32
  | .serialNumber => 32
  | .dataReady => 2
  | .deviceStatus => 4
  | .measuredValues => 18

/-! ## Codes -/

/-- The 3-bit code of RESULT (spec/10_state.md R20, spec/60_exceptions.md R170). -/
def resultCode : Result → BitVec 3
  | .none => 0
  | .ok => 1
  | .checksumError => 2
  | .lengthError => 3
  | .transportError => 4
  | .unknownCommand => 5
  | .protocolError => 6

/-- The 2-bit code of PHASE (spec/10_state.md R18). -/
def phaseCode : Phase → BitVec 2
  | .idle => 0
  | .receiving => 1
  | .validated => 2
  | .rejected => 3

/-- The 3-bit code of DEST (spec/10_state.md R17). -/
def destCode : Dest → BitVec 3
  | .none => 0
  | .productName => 1
  | .serialNumber => 2
  | .dataReady => 3
  | .deviceStatus => 4
  | .measuredValues => 5

/-! ## Updates of the registers -/

/-- `RES <- v` (spec/00_scope.md section 5). -/
def State.setRes (s : State) (v : Word32) : State := { s with res := v }

/-- PHASE and RESULT are written together (spec/10_state.md R20). -/
def State.setOutcome (s : State) (p : Phase) (r : Result) : State := { s with phase := p, result := r }

/-- `CMDREG <- w` (spec/43_sequencer.md R120, R121). -/
def State.setCmdreg (s : State) (w : Word16) : State := { s with cmdreg := w }

/-- Latch a descriptor and clear the frame: RLEN, DEST, CNT, BAD, OVERRUN (spec/43_sequencer.md R120). -/
def State.latch (s : State) (rlen : BitVec 6) (dest : Dest) : State :=
  { s with rlen := rlen, dest := dest, cnt := 0, bad := false, overrun := false }

/-- `HI <- b`, `STG[(k div 3) * 2] <- b` with k = CNT (spec/43_sequencer.md R122). STG has 32 bytes: a write past
them, which no reachable state makes, is dropped (log 10). -/
def State.stageHi (s : State) (b : Byte) : State :=
  { s with hi := b, stg := s.stg.setIfInBounds (s.cnt.toNat / 3 * 2) b }

/-- `LO <- b`, `STG[(k div 3) * 2 + 1] <- b` with k = CNT (spec/43_sequencer.md R122; log 10). -/
def State.stageLo (s : State) (b : Byte) : State :=
  { s with lo := b, stg := s.stg.setIfInBounds (s.cnt.toNat / 3 * 2 + 1) b }

/-- `BAD <- 1` (spec/43_sequencer.md R122). -/
def State.setBad (s : State) : State := { s with bad := true }

/-- `OVERRUN <- 1` (spec/43_sequencer.md R122). -/
def State.setOverrun (s : State) : State := { s with overrun := true }

/-- `CNT <- k + 1` with k = CNT (spec/43_sequencer.md R122). -/
def State.countByte (s : State) : State := { s with cnt := s.cnt + 1 }

/-- Write bytes of the snapshot (spec/00_scope.md section 5, MemWrite). -/
def State.snapWrite (s : State) (a : Nat) (bs : List Byte) : State :=
  { s with snap := s.snap.writeBytes a bs }

/-- Draw a free value: the counter moves on, the value is `Config.freeByte` of the counter before (log 5). -/
def State.drawFree (s : State) : State := { s with freeCount := s.freeCount + 1 }

/-- What the host still has to give. -/
def State.setInputs (s : State) (is : List HostInput) : State := { s with inputs := is }

/-- `RES <- zext_32(RESULT)` with RESULT as it now stands (spec/30_encoding.md R65). -/
def State.respond (s : State) : State := s.setRes ((resultCode s.result).setWidth 32)

/-! ## Rejection, the start of an exchange, the commit -/

/-- `raise <Kind>` (spec/60_exceptions.md R176): PHASE <- REJECTED, RESULT <- Kind, RES <- Kind, nothing saved and
nothing else written. -/
def raise (kind : Result) (s : State) : State := (s.setOutcome .rejected kind).respond

/-- A sequencing operation in a phase that does not accept it (spec/43_sequencer.md R127). -/
def violation (s : State) : State := raise .protocolError s

/-- An accepted LOAD_CMD starts a new exchange (spec/43_sequencer.md R120); it is also what leaves REJECTED, the
block having no other return (spec/60_exceptions.md R180). -/
def startExchange (w : Word16) (rlen : BitVec 6) (dest : Dest) (s : State) : State :=
  (((s.setCmdreg w).latch rlen dest).setOutcome .receiving .none).respond

/-- A LOAD_CMD of a known command: accepted outside RECEIVING, a violation in it (spec/43_sequencer.md R120, R127;
the priority is spec/60_exceptions.md R179). -/
def loadKnown (w : Word16) (rlen : BitVec 6) (dest : Dest) (s : State) : State :=
  if s.phase = .receiving then violation s else startExchange w rlen dest s

/-- A LOAD_CMD of an unknown command: CMDREG takes the word, and the exchange is rejected
(spec/43_sequencer.md R121). -/
def loadUnknown (w : Word16) (s : State) : State :=
  if s.phase = .receiving then violation s else raise .unknownCommand (s.setCmdreg w)

/-- The first `RLEN * 2 div 3` bytes of the staging buffer (spec/43_sequencer.md R124). -/
def State.payload (s : State) : List Byte := s.stg.toList.take (s.rlen.toNat * 2 / 3)

/-- The commit (spec/43_sequencer.md R124): the destination field takes the payload, byte j from STG[j]; with
DEST = NONE nothing is written. -/
def commit (s : State) : State :=
  if s.dest = .none then s else s.snapWrite (destBase s.dest) s.payload

/-! ## Reset and the operation port -/

/-- The reset event (spec/70_reset_and_hazards.md R190 to R192): every register at its reset value in one step. What
the host gives next and the free-value counter are not registers of the block and stay (log 6). -/
def resetEvent (s : State) : State :=
  { State.reset with inputs := s.inputs, freeCount := s.freeCount }

/-- The state once the first thing on the port has been taken. -/
def State.taken (s : State) : State := s.setInputs s.inputs.tail

end Sys2Proof.Machine
end

