-- ==== Sys2Proof/Machine/Catalog.lean ====
section
/-! DEFINITION. The eleven command words (spec/42_catalog.md R100 to R110). Each latches its own RLEN and DEST, written
here from its own rule and not from the catalogue, as the LOAD_CMD that carries it does (log 2). The bytes are then
given by PUSH and the payload is committed by END (spec/43_sequencer.md). -/

namespace Sys2Proof.Machine

/-- GET_PRODUCT_NAME: RLEN = 48, DEST = productName (spec/42_catalog.md R100). -/
def execGetProductName (s : State) : Host.Outcome State Fault Refusal :=
  .next (loadKnown 0xD014 48 .productName s)

/-- GET_SERIAL_NUMBER: RLEN = 48, DEST = serialNumber (spec/42_catalog.md R101). -/
def execGetSerialNumber (s : State) : Host.Outcome State Fault Refusal :=
  .next (loadKnown 0xD033 48 .serialNumber s)

/-- GET_DATA_READY: RLEN = 3, DEST = dataReady (spec/42_catalog.md R102). -/
def execGetDataReady (s : State) : Host.Outcome State Fault Refusal :=
  .next (loadKnown 0x0202 3 .dataReady s)

/-- READ_DEVICE_STATUS: RLEN = 6, DEST = deviceStatus (spec/42_catalog.md R103). -/
def execReadDeviceStatus (s : State) : Host.Outcome State Fault Refusal :=
  .next (loadKnown 0xD206 6 .deviceStatus s)

/-- READ_AND_CLEAR_DEVICE_STATUS: RLEN = 6, DEST = deviceStatus (spec/42_catalog.md R104). "Clear" acts on the sensor module; it does not clear the snapshot. -/
def execReadAndClearDeviceStatus (s : State) : Host.Outcome State Fault Refusal :=
  .next (loadKnown 0xD210 6 .deviceStatus s)

/-- READ_MEASURED_VALUES: RLEN = 27, DEST = measuredValues (spec/42_catalog.md R105). -/
def execReadMeasuredValues (s : State) : Host.Outcome State Fault Refusal :=
  .next (loadKnown 0x0300 27 .measuredValues s)

/-- START_CONTINUOUS_MEASUREMENT: RLEN = 0, DEST = none (spec/42_catalog.md R106). -/
def execStartContinuousMeasurement (s : State) : Host.Outcome State Fault Refusal :=
  .next (loadKnown 0x0021 0 .none s)

/-- STOP_MEASUREMENT: RLEN = 0, DEST = none (spec/42_catalog.md R107). -/
def execStopMeasurement (s : State) : Host.Outcome State Fault Refusal :=
  .next (loadKnown 0x0104 0 .none s)

/-- DEVICE_RESET: RLEN = 0, DEST = none (spec/42_catalog.md R108). It resets the sensor module, not the block: the snapshot keeps its values. -/
def execDeviceReset (s : State) : Host.Outcome State Fault Refusal :=
  .next (loadKnown 0xD304 0 .none s)

/-- START_FAN_CLEANING: RLEN = 0, DEST = none (spec/42_catalog.md R109). -/
def execStartFanCleaning (s : State) : Host.Outcome State Fault Refusal :=
  .next (loadKnown 0x5607 0 .none s)

/-- ACTIVATE_SHT_HEATER: RLEN = 0, DEST = none (spec/42_catalog.md R110). -/
def execActivateShtHeater (s : State) : Host.Outcome State Fault Refusal :=
  .next (loadKnown 0x6765 0 .none s)

end Sys2Proof.Machine
end

