-- ==== Sys2Proof/Machine/Crc.lean ====
section
/-! DEFINITION. The checksum functions of the codec: `crc_byte`, `crc8`, `verify` (spec/40_checksum.md R80 to R82).
Pure: they read and write no state. -/

namespace Sys2Proof.Machine

/-- One turn of R81's loop: shift left, the bit shifted out selects the polynomial. -/
def crcShift (c : Byte) : Byte :=
  if c.msb then (c <<< 1) ^^^ crcPoly else c <<< 1

/-- R81's loop, `n` turns. -/
def crcShifts : Nat → Byte → Byte
  | 0, c => c
  | n + 1, c => crcShifts n (crcShift c)

/-- `crc_byte(c, b)` (spec/40_checksum.md R81). The loop is the spec's reading of the document's parameters
(spec/93_implementation_defined.md GK1; log 14). -/
def crcByte (c b : Byte) : Byte := crcShifts 8 (c ^^^ b)

/-- `crc8(hi, lo)`: byte 0 of the word first (R80). -/
def crc8 (hi lo : Byte) : Byte := crcByte (crcByte crcInit hi) lo

/-- `verify(hi, lo, rx)` (R82). -/
def verify (hi lo rx : Byte) : Bool := crc8 hi lo == rx

end Sys2Proof.Machine
end

