-- ==== Sys2Proof/Machine/Operands.lean ====
section
/-! DEFINITION. How operands and values are put together from bits and bytes: the catalogue lookup, the fixed places
of the snapshot, flags, measurement words, the forms of RES (spec/30_encoding.md R65, R70; spec/42_catalog.md R111;
spec/44_fields.md R141, R149, R160; spec/43_sequencer.md R126). -/

namespace Sys2Proof.Machine

/-- `lookup(w)`, on all 16 bits; `none` is Unknown (spec/42_catalog.md R111). -/
def lookup (w : Word16) : Option CatalogEntry := catalog.find? (fun e => e.word == w)

/-! ## The forms of RES (spec/30_encoding.md R65) -/

/-- `zext_32` of a byte. -/
def zextByte (b : Byte) : Word32 := b.setWidth 32

/-- `zext_32` of a boolean: bit 0, the rest 0. -/
def zextBool (b : Bool) : Word32 := (BitVec.ofBool b).setWidth 32

/-- `zext_32` of a 16-bit word: the unsigned reading (spec/44_fields.md R160). -/
def zextWord (w : Word16) : Word32 := w.setWidth 32

/-- `sext_32` of a 16-bit word: the signed reading (spec/44_fields.md R160). -/
def sextWord (w : Word16) : Word32 := w.signExtend 32

/-! ## Places of the snapshot (spec/20_memory.md R41) -/

/-- `SNAP.data_ready[1]`. -/
def readyAddr : SnapAddr := 0x41

/-- `SNAP.device_status[y]`. -/
def statusAddr (y : BitVec 2) : SnapAddr := ⟨0x42 + y.toNat, by have := y.isLt; simp [Config.snapBytes]; omega⟩

/-- `SNAP.measured_values[2w]`, the high byte of word w. -/
def measHiAddr (w : Fin 9) : SnapAddr := ⟨0x46 + 2 * w.val, by have := w.isLt; simp [Config.snapBytes]; omega⟩

/-- `SNAP.measured_values[2w + 1]`, the low byte of word w. -/
def measLoAddr (w : Fin 9) : SnapAddr := ⟨0x46 + 2 * w.val + 1, by have := w.isLt; simp [Config.snapBytes]; omega⟩

/-! ## Values of the snapshot -/

/-- `word(w)`: high byte first (spec/44_fields.md R160). -/
def measWord (m : Memory) (w : Fin 9) : Word16 :=
  ((m.cell (measHiAddr w)).setWidth 16 <<< 8) ||| (m.cell (measLoAddr w)).setWidth 16

/-- The word RD_STATUS returns (spec/43_sequencer.md R126), from bit 31 down. -/
def statusWord (s : State) : Word32 :=
  0#5 ++ (destCode s.dest ++ (0#2 ++ (s.rlen ++ (0#2 ++ (s.cnt ++ (0#1 ++ (resultCode s.result ++
    (0#2 ++ phaseCode s.phase))))))))

end Sys2Proof.Machine
end

