-- ==== Sys2Proof/Machine/Checksum.lean ====
section
/-! DEFINITION. The checksum operations CRC_COMPUTE and CRC_VERIFY (spec/40_checksum.md R83, R84): legal in every
phase, they write nothing but RES. -/

namespace Sys2Proof.Machine

/-- CRC_COMPUTE (spec/40_checksum.md R83). -/
def execCrcCompute (w0 w1 : Byte) (s : State) : Host.Outcome State Fault Refusal :=
  .next (s.setRes (zextByte (crc8 w0 w1)))

/-- CRC_VERIFY (spec/40_checksum.md R84). A mismatch is the answer 0, not an error. -/
def execCrcVerify (w0 w1 rx : Byte) (s : State) : Host.Outcome State Fault Refusal :=
  .next (s.setRes (zextBool (verify w0 w1 rx)))

end Sys2Proof.Machine
end

