-- ==== Sys2Proof/Machine/Flags.lean ====
section
/-! DEFINITION. Every flag the spec computes: the bits of `device_status` and the data-ready boolean
(spec/44_fields.md R141, R149), the sticky BAD and OVERRUN of a frame (spec/43_sequencer.md R122), and the cause END
settles on (R123, spec/60_exceptions.md R179). -/

namespace Sys2Proof.Machine

/-- `flag(byteix, bitix)` (spec/44_fields.md R141). -/
def statusFlag (m : Memory) (y : BitVec 2) (i : BitVec 3) : Bool :=
  (m.cell (statusAddr y) &&& (1#8 <<< i.toNat)) != 0

/-- A named flag at its place of the flag map (spec/44_fields.md R142). -/
def namedFlag (m : Memory) (at' : BitVec 2 × BitVec 3) : Bool := statusFlag m at'.1 at'.2

/-- The data-ready decoder: byte 1 non-zero (spec/44_fields.md R149). -/
def dataReady (m : Memory) : Bool := m.cell readyAddr != 0

/-- The checksum byte of a chunk: BAD is set when the chunk fails, and never cleared here
(spec/43_sequencer.md R122, spec/10_state.md R23). -/
def State.checkChunk (s : State) (rx : Byte) : State := if verify s.hi s.lo rx then s else s.setBad

/-- One frame byte (spec/43_sequencer.md R122): beyond the expected length it only sets OVERRUN; else the position in
its chunk says whether it is HI, LO or the checksum, and CNT counts it. -/
def State.acceptByte (s : State) (b : Byte) : State :=
  if s.cnt = s.rlen then s.setOverrun
  else
    match s.cnt.toNat % 3 with
    | 0 => (s.stageHi b).countByte
    | 1 => (s.stageLo b).countByte
    | _ => (s.checkChunk b).countByte

/-- How the frame ended: length before checksum (spec/43_sequencer.md R123, spec/60_exceptions.md R179). -/
def State.frameResult (s : State) : Result :=
  if s.overrun || s.cnt != s.rlen then .lengthError
  else if s.bad then .checksumError
  else .ok

end Sys2Proof.Machine
end

