-- ==== Sys2Proof/Machine/Fields.lean ====
section
/-! DEFINITION. The field operations (spec/44_fields.md): RD_BYTE, RD_FLAG, RD_DATA_READY, the six named flags, the
nine measurement words. Legal in every phase; they read the snapshot and write nothing but RES. -/

namespace Sys2Proof.Machine

/-- RD_BYTE (spec/44_fields.md R140). At 0x58 and above RES[7:0] is unspecified, a free value, and RES[31:8] is 0
(spec/20_memory.md R42; log 5). -/
def execRdByte (addr : BitVec 7) (s : State) : Host.Outcome State Fault Refusal :=
  match s.snap.read addr.toNat with
  | some b => .next (s.setRes (zextByte b))
  | none => .next (s.drawFree.setRes (zextByte (Config.freeByte s.freeCount)))

/-- RD_FLAG (spec/44_fields.md R141). -/
def execRdFlag (y : BitVec 2) (i : BitVec 3) (s : State) : Host.Outcome State Fault Refusal :=
  .next (s.setRes (zextBool (statusFlag s.snap y i)))

/-- RD_DATA_READY (spec/44_fields.md R149). -/
def execRdDataReady (s : State) : Host.Outcome State Fault Refusal :=
  .next (s.setRes (zextBool (dataReady s.snap)))

/-- FLAG_FAN_SPEED_WARNING (spec/44_fields.md R143). -/
def execFlagFanSpeedWarning (s : State) : Host.Outcome State Fault Refusal :=
  .next (s.setRes (zextBool (namedFlag s.snap fanSpeedWarningAt)))

/-- FLAG_PM_ERROR (spec/44_fields.md R144). -/
def execFlagPmError (s : State) : Host.Outcome State Fault Refusal :=
  .next (s.setRes (zextBool (namedFlag s.snap pmErrorAt)))

/-- FLAG_CO2_ERROR (spec/44_fields.md R145). -/
def execFlagCo2Error (s : State) : Host.Outcome State Fault Refusal :=
  .next (s.setRes (zextBool (namedFlag s.snap co2ErrorAt)))

/-- FLAG_GAS_ERROR (spec/44_fields.md R146). -/
def execFlagGasError (s : State) : Host.Outcome State Fault Refusal :=
  .next (s.setRes (zextBool (namedFlag s.snap gasErrorAt)))

/-- FLAG_RHT_ERROR (spec/44_fields.md R147). -/
def execFlagRhtError (s : State) : Host.Outcome State Fault Refusal :=
  .next (s.setRes (zextBool (namedFlag s.snap rhtErrorAt)))

/-- FLAG_FAN_ERROR (spec/44_fields.md R148). -/
def execFlagFanError (s : State) : Host.Outcome State Fault Refusal :=
  .next (s.setRes (zextBool (namedFlag s.snap fanErrorAt)))

/-- MEAS_PM1_0: word 0, unsigned (spec/44_fields.md R151). -/
def execMeasPm1_0 (s : State) : Host.Outcome State Fault Refusal :=
  .next (s.setRes (zextWord (measWord s.snap 0)))

/-- MEAS_PM2_5: word 1, unsigned (spec/44_fields.md R152). -/
def execMeasPm2_5 (s : State) : Host.Outcome State Fault Refusal :=
  .next (s.setRes (zextWord (measWord s.snap 1)))

/-- MEAS_PM4_0: word 2, unsigned (spec/44_fields.md R153). -/
def execMeasPm4_0 (s : State) : Host.Outcome State Fault Refusal :=
  .next (s.setRes (zextWord (measWord s.snap 2)))

/-- MEAS_PM10_0: word 3, unsigned (spec/44_fields.md R154). -/
def execMeasPm10_0 (s : State) : Host.Outcome State Fault Refusal :=
  .next (s.setRes (zextWord (measWord s.snap 3)))

/-- MEAS_HUMIDITY: word 4, signed (spec/44_fields.md R155). -/
def execMeasHumidity (s : State) : Host.Outcome State Fault Refusal :=
  .next (s.setRes (sextWord (measWord s.snap 4)))

/-- MEAS_TEMPERATURE: word 5, signed (spec/44_fields.md R156). -/
def execMeasTemperature (s : State) : Host.Outcome State Fault Refusal :=
  .next (s.setRes (sextWord (measWord s.snap 5)))

/-- MEAS_VOC: word 6, signed (spec/44_fields.md R157). -/
def execMeasVoc (s : State) : Host.Outcome State Fault Refusal :=
  .next (s.setRes (sextWord (measWord s.snap 6)))

/-- MEAS_NOX: word 7, signed (spec/44_fields.md R158). -/
def execMeasNox (s : State) : Host.Outcome State Fault Refusal :=
  .next (s.setRes (sextWord (measWord s.snap 7)))

/-- MEAS_CO2: word 8, unsigned (spec/44_fields.md R159). -/
def execMeasCo2 (s : State) : Host.Outcome State Fault Refusal :=
  .next (s.setRes (zextWord (measWord s.snap 8)))

end Sys2Proof.Machine
end

