-- ==== Sys2Proof/Machine/Sequencer.lean ====
section
/-! DEFINITION. The sequencing operations LOAD_CMD, PUSH, END, ABORT, RD_STATUS (spec/43_sequencer.md). -/

namespace Sys2Proof.Machine

/-- LOAD_CMD (spec/43_sequencer.md R120, R121, R127). -/
def execLoadCmd (w : Word16) (s : State) : Host.Outcome State Fault Refusal :=
  match lookup w with
  | some e => .next (loadKnown w e.rlen e.dest s)
  | none => .next (loadUnknown w s)

/-- PUSH (spec/43_sequencer.md R122, R127). -/
def execPush (b : Byte) (s : State) : Host.Outcome State Fault Refusal :=
  if s.phase = .receiving then .next (s.acceptByte b).respond else .next (violation s)

/-- END (spec/43_sequencer.md R123, R124, R127). -/
def execEnd (s : State) : Host.Outcome State Fault Refusal :=
  if s.phase = .receiving then
    match s.frameResult with
    | .ok => .next ((commit s).setOutcome .validated .ok).respond
    | cause => .next (raise cause s)
  else .next (violation s)

/-- ABORT (spec/43_sequencer.md R125, R127). -/
def execAbort (s : State) : Host.Outcome State Fault Refusal :=
  if s.phase = .receiving then .next (raise .transportError s) else .next (violation s)

/-- RD_STATUS (spec/43_sequencer.md R126). -/
def execRdStatus (s : State) : Host.Outcome State Fault Refusal :=
  .next (s.setRes (statusWord s))

end Sys2Proof.Machine
end

