-- ==== Sys2Proof/Machine/Dispatch.lean ====
section
/-! DEFINITION. One arm per instruction. -/

namespace Sys2Proof.Machine

def exec (i : Instr) (s : State) : Host.Outcome State Fault Refusal :=
  match i with
  | .loadCmd w => Sys2Proof.Machine.execLoadCmd w s
  | .push b => Sys2Proof.Machine.execPush b s
  | .endFrame => Sys2Proof.Machine.execEnd s
  | .abort => Sys2Proof.Machine.execAbort s
  | .rdStatus => Sys2Proof.Machine.execRdStatus s
  | .crcCompute w0 w1 => Sys2Proof.Machine.execCrcCompute w0 w1 s
  | .crcVerify w0 w1 rx => Sys2Proof.Machine.execCrcVerify w0 w1 rx s
  | .rdByte addr => Sys2Proof.Machine.execRdByte addr s
  | .rdFlag y k => Sys2Proof.Machine.execRdFlag y k s
  | .rdDataReady => Sys2Proof.Machine.execRdDataReady s
  | .flagFanSpeedWarning => Sys2Proof.Machine.execFlagFanSpeedWarning s
  | .flagPmError => Sys2Proof.Machine.execFlagPmError s
  | .flagCo2Error => Sys2Proof.Machine.execFlagCo2Error s
  | .flagGasError => Sys2Proof.Machine.execFlagGasError s
  | .flagRhtError => Sys2Proof.Machine.execFlagRhtError s
  | .flagFanError => Sys2Proof.Machine.execFlagFanError s
  | .measPm1_0 => Sys2Proof.Machine.execMeasPm1_0 s
  | .measPm2_5 => Sys2Proof.Machine.execMeasPm2_5 s
  | .measPm4_0 => Sys2Proof.Machine.execMeasPm4_0 s
  | .measPm10_0 => Sys2Proof.Machine.execMeasPm10_0 s
  | .measHumidity => Sys2Proof.Machine.execMeasHumidity s
  | .measTemperature => Sys2Proof.Machine.execMeasTemperature s
  | .measVoc => Sys2Proof.Machine.execMeasVoc s
  | .measNox => Sys2Proof.Machine.execMeasNox s
  | .measCo2 => Sys2Proof.Machine.execMeasCo2 s
  | .getProductName => Sys2Proof.Machine.execGetProductName s
  | .getSerialNumber => Sys2Proof.Machine.execGetSerialNumber s
  | .getDataReady => Sys2Proof.Machine.execGetDataReady s
  | .readDeviceStatus => Sys2Proof.Machine.execReadDeviceStatus s
  | .readAndClearDeviceStatus => Sys2Proof.Machine.execReadAndClearDeviceStatus s
  | .readMeasuredValues => Sys2Proof.Machine.execReadMeasuredValues s
  | .startContinuousMeasurement => Sys2Proof.Machine.execStartContinuousMeasurement s
  | .stopMeasurement => Sys2Proof.Machine.execStopMeasurement s
  | .deviceReset => Sys2Proof.Machine.execDeviceReset s
  | .startFanCleaning => Sys2Proof.Machine.execStartFanCleaning s
  | .activateShtHeater => Sys2Proof.Machine.execActivateShtHeater s

end Sys2Proof.Machine
end

