-- ==== Sys2Proof/Machine/Step.lean ====
section
/-! DEFINITION. One step: one thing the host does, taken from the port (spec/00_scope.md section 5, Steps;
spec/20_memory.md R49). -/

namespace Sys2Proof.Machine

/-- One step. With nothing on the port the block waits and nothing changes (spec/70_reset_and_hazards.md R194; log
1). A reset event resets (R190). An operation word is decoded and executed; a reserved one is refused
(spec/30_encoding.md R71; log 11). -/
def step (s : State) : Host.Outcome State Fault Refusal :=
  match s.inputs with
  | [] => .next s
  | .reset :: _ => .next (resetEvent s.taken)
  | .word p :: _ =>
    match decode p with
    | some i => exec i s.taken
    | none => .refused .reservedOpsel

/-- Put the word of a table row on the port, before anything that is already there, so that the next step runs it
(log 7). -/
def State.withFetchWord (s : State) (nbits w : Nat) : State :=
  s.setInputs (.word (tableWord nbits w) :: s.inputs)

end Sys2Proof.Machine
end

