-- ==== Sys2Proof/Machine/Timing.lean ====
section
/-! DEFINITION. The Timing Compensator: information only, outside the block; nothing of the block calls it
(spec/70_reset_and_hazards.md R200, R201, spec/00_scope.md R3; log 13). -/

namespace Sys2Proof.Machine

/-- `compensate(base_ms, tolerance_shift)` over the natural numbers: the width of `uint` is not given
(spec/70_reset_and_hazards.md R200, spec/93_implementation_defined.md U6). -/
def compensate (baseMs toleranceShift : Nat) : Nat := baseMs + (baseMs >>> toleranceShift)

/-- The compensated wait of a catalogue entry (spec/70_reset_and_hazards.md R201). -/
def compensatedWait (e : CatalogEntry) : Nat := compensate e.execMs Config.toleranceShift

end Sys2Proof.Machine
end

