-- ==== Sys2Proof/Machine/Frame.lean ====
section
/-! DEFINITION. The frame decoder as a function of a whole frame, and its inverse (spec/41_frame_decoder.md R90 to
R97). The block does not call them; PUSH and END realise `decode_frame` byte by byte, and spec/43_sequencer.md R128
says that the two agree. -/

namespace Sys2Proof.Machine

/-- The three outcomes of `decode_frame` (R90). -/
inductive FrameOutcome where
  | ok (payload : List Byte)
  | checksumError
  | lengthError
  deriving DecidableEq, Repr

/-- The loop of R90 over whole chunks: the data bytes in order, or nothing when a chunk fails. -/
def decodeChunks : List Byte → Option (List Byte)
  | hi :: lo :: rx :: rest =>
    if verify hi lo rx then (decodeChunks rest).map (fun p => hi :: lo :: p) else none
  | _ => some []

/-- `decode_frame(F)` (R90): the length test before any checksum test (R94). -/
def decodeFrame (f : List Byte) : FrameOutcome :=
  if f.length % 3 ≠ 0 then .lengthError
  else
    match decodeChunks f with
    | some p => .ok p
    | none => .checksumError

/-- `encode_frame(P)` for a payload of even length (R97). -/
def encodeFrame : List Byte → List Byte
  | hi :: lo :: rest => hi :: lo :: crc8 hi lo :: encodeFrame rest
  | _ => []

end Sys2Proof.Machine
end

