-- ==== Sys2Proof/Machine/Pseudo.lean ====
section
/-! DEFINITION. The pseudo-operations of the notation, each a fixed expansion (spec/30_encoding.md R75). They are lists
of instructions the host gives, not instructions. -/

namespace Sys2Proof.Machine

/-- FRAME b0 b1 ...: one PUSH for each byte, in order. -/
def pseudoFrame (f : List Byte) : List Instr := f.map Instr.push

/-- EXCHANGE cmd, b0 ...: LOAD_CMD, the frame, END. -/
def pseudoExchange (w : Word16) (f : List Byte) : List Instr := .loadCmd w :: (pseudoFrame f ++ [.endFrame])

/-- WRITE_ONLY cmd: LOAD_CMD, END. -/
def pseudoWriteOnly (w : Word16) : List Instr := [.loadCmd w, .endFrame]

/-- FAILED cmd: LOAD_CMD, ABORT. -/
def pseudoFailed (w : Word16) : List Instr := [.loadCmd w, .abort]

end Sys2Proof.Machine
end

