-- ==== Sys2Proof/Safety.lean ====
section
/-! DEFINITION. The terms the claims are stated in: kinds of operation, runs of operations, the result word of an
operation, the invariant of the block, and agreement of two states on everything but the hidden registers. -/

namespace Sys2Proof

/-- The operations that write no state: RD_STATUS, the checksum operations and the field operations
(spec/20_memory.md R47). -/
def Instr.isQuery : Instr → Bool
  | .rdStatus | .crcCompute _ _ | .crcVerify _ _ _
  | .rdByte _ | .rdFlag _ _ | .rdDataReady
  | .flagFanSpeedWarning | .flagPmError | .flagCo2Error | .flagGasError | .flagRhtError | .flagFanError
  | .measPm1_0 | .measPm2_5 | .measPm4_0 | .measPm10_0 | .measHumidity | .measTemperature | .measVoc | .measNox
  | .measCo2 => true
  | .loadCmd _ | .push _ | .endFrame | .abort
  | .getProductName | .getSerialNumber | .getDataReady | .readDeviceStatus | .readAndClearDeviceStatus
  | .readMeasuredValues | .startContinuousMeasurement | .stopMeasurement | .deviceReset | .startFanCleaning
  | .activateShtHeater => false

/-- The command word an instruction loads: LOAD_CMD its operand, a bare command word itself (spec/30_encoding.md R66;
log 2); no other instruction loads one. -/
def Instr.commandWord : Instr → Option Word16
  | .loadCmd w => some w
  | .getProductName => some 0xD014
  | .getSerialNumber => some 0xD033
  | .getDataReady => some 0x0202
  | .readDeviceStatus => some 0xD206
  | .readAndClearDeviceStatus => some 0xD210
  | .readMeasuredValues => some 0x0300
  | .startContinuousMeasurement => some 0x0021
  | .stopMeasurement => some 0x0104
  | .deviceReset => some 0xD304
  | .startFanCleaning => some 0x5607
  | .activateShtHeater => some 0x6765
  | .push _ | .endFrame | .abort | .rdStatus | .crcCompute _ _ | .crcVerify _ _ _
  | .rdByte _ | .rdFlag _ _ | .rdDataReady
  | .flagFanSpeedWarning | .flagPmError | .flagCo2Error | .flagGasError | .flagRhtError | .flagFanError
  | .measPm1_0 | .measPm2_5 | .measPm4_0 | .measPm10_0 | .measHumidity | .measTemperature | .measVoc | .measNox
  | .measCo2 => none

end Sys2Proof

namespace Sys2Proof.Machine

/-- The operations of a list, one after another (spec/20_memory.md R49, spec/70_reset_and_hazards.md R203). -/
def runInstrs : List Instr → State → Host.Outcome State Fault Refusal
  | [], s => .next s
  | i :: is, s =>
    match exec i s with
    | .next t => runInstrs is t
    | .fault r => .fault r
    | .refused r => .refused r

/-- What RES an operation returns in a state. -/
def resOf (i : Instr) (s : State) : Option Word32 :=
  match exec i s with
  | .next t => some t.res
  | .fault _ => none
  | .refused _ => none

/-- What RES each operation of a list returns, in order (spec/70_reset_and_hazards.md R203). -/
def resTrace : List Instr → State → List Word32
  | [], _ => []
  | i :: is, s =>
    match exec i s with
    | .next t => t.res :: resTrace is t
    | .fault _ => []
    | .refused _ => []

/-- The invariant of the block. -/
structure State.Inv (s : State) : Prop where
  /-- The snapshot memory has its canonical form (log 8). -/
  snapWf : s.snap.wf
  /-- `RLEN mod 3 == 0` (spec/10_state.md R17). -/
  rlenChunks : s.rlen.toNat % 3 = 0
  /-- `DEST == NONE` exactly when `RLEN == 0` (spec/10_state.md R17). -/
  destNone : s.dest = .none ↔ s.rlen = 0
  /-- The payload fills its field exactly (spec/42_catalog.md R113). -/
  fieldSize : s.rlen.toNat * 2 / 3 = destSize s.dest
  /-- `CNT <= RLEN` (spec/10_state.md R19). -/
  cntBound : s.cnt.toNat ≤ s.rlen.toNat
  /-- `RESULT == NONE` exactly when `PHASE` is IDLE or RECEIVING (spec/10_state.md R20). -/
  resultNone : s.result = .none ↔ s.phase = .idle ∨ s.phase = .receiving
  /-- `RESULT == OK` exactly when `PHASE == VALIDATED` (spec/10_state.md R20). -/
  resultOk : s.result = .ok ↔ s.phase = .validated

/-- The state the spec gives for reset (spec/70_reset_and_hazards.md R191, the table): everything but HI, LO and STG,
which R191 leaves unspecified. RES, the port and the model's counter are no rows of the table. -/
structure State.AtReset (s : State) : Prop where
  productName : ∀ a, a < 0x20 → s.snap.read a = some 0x15
  serialNumber : ∀ a, 0x20 ≤ a → a < 0x40 → s.snap.read a = some 0x15
  dataReady : ∀ a, 0x40 ≤ a → a < 0x42 → s.snap.read a = some 0x00
  deviceStatus : ∀ a, 0x42 ≤ a → a < 0x46 → s.snap.read a = some 0xFF
  measuredValues : ∀ a, 0x46 ≤ a → a < 0x58 → s.snap.read a = some 0xFF
  cmdreg : s.cmdreg = 0x0000
  rlen : s.rlen = 0
  dest : s.dest = .none
  phase : s.phase = .idle
  cnt : s.cnt = 0
  result : s.result = .none
  bad : s.bad = false
  overrun : s.overrun = false

/-- `t` differs from `s` at most in the hidden registers HI, LO, BAD, OVERRUN and STG (spec/10_state.md R22 to R26). -/
def State.AgreesButHidden (s t : State) : Prop :=
  t = { s with hi := t.hi, lo := t.lo, bad := t.bad, overrun := t.overrun, stg := t.stg }

/-- Every register of the spec but RES, every snapshot byte and everything pending on the port is the same
(the free-value counter is the model's own and is not mentioned). -/
structure State.SameButRes (s t : State) : Prop where
  snap : ∀ a, t.snap.read a = s.snap.read a
  cmdreg : t.cmdreg = s.cmdreg
  rlen : t.rlen = s.rlen
  dest : t.dest = s.dest
  phase : t.phase = s.phase
  cnt : t.cnt = s.cnt
  result : t.result = s.result
  hi : t.hi = s.hi
  lo : t.lo = s.lo
  bad : t.bad = s.bad
  overrun : t.overrun = s.overrun
  stg : t.stg = s.stg
  inputs : t.inputs = s.inputs

end Sys2Proof.Machine
end

