-- ==== Sys2Proof/Certificates/Slice0/Obligations.lean ====
section
/-! DEFINITION. The statements for the provers. Each docstring names the rules of spec/ it formalises. Where a clause
rests on a choice of the model, the docstring says so and names the log entry. -/

open Sys2Proof Sys2Proof.Machine

/-! ## Encoding -/

/-- Decoding the word of any well-formed instruction gives it back, every operand at every value
(spec/30_encoding.md sections 1 and 2). The bare form of the command words is the model's choice (log 2). -/
def Obligations.DecodeOfEncodeIsTheInstruction : Prop :=
  ∀ i : Instr, i.wf = true → decode (encode i) = some i

/-- Every word an assembler writes decodes, and encoding what it decodes to gives the word back
(spec/30_encoding.md R71, R74; bare command words: log 2). -/
def Obligations.EncodeOfDecodeIsTheCanonicalWord : Prop :=
  ∀ p : PortWord, p.canonical = true → ∃ i, decode p = some i ∧ encode i = p

/-- spec/30_encoding.md R71: exactly the listed OPSEL values decode to nothing, and a step on such a word refuses. -/
def Obligations.ReservedOpselMatchesNothing : Prop :=
  (∀ w : Word32,
    decode (.op32 w) = none ↔
      (w.extractLsb' 24 8).toNat = 0x00 ∨
      (0x05 ≤ (w.extractLsb' 24 8).toNat ∧ (w.extractLsb' 24 8).toNat ≤ 0x07) ∨
      (0x09 ≤ (w.extractLsb' 24 8).toNat ∧ (w.extractLsb' 24 8).toNat ≤ 0x0F) ∨
      (0x12 ≤ (w.extractLsb' 24 8).toNat ∧ (w.extractLsb' 24 8).toNat ≤ 0x1F) ∨
      (0x23 ≤ (w.extractLsb' 24 8).toNat ∧ (w.extractLsb' 24 8).toNat ≤ 0x2F) ∨
      (0x36 ≤ (w.extractLsb' 24 8).toNat ∧ (w.extractLsb' 24 8).toNat ≤ 0x3F) ∨
      0x49 ≤ (w.extractLsb' 24 8).toNat) ∧
  ∀ (s : State) (w : Word32) (rest : List HostInput),
    s.inputs = .word (.op32 w) :: rest → decode (.op32 w) = none → step s = .refused .reservedOpsel

/-- spec/30_encoding.md R61 to R64: the OPSEL map, the ARG fields, and that every other ARG bit is ignored. -/
def Obligations.OpselSelectsAndUnnamedArgBitsAreIgnored : Prop :=
  ∀ arg : BitVec 24,
    decode (op32 0x01 arg) = some (.loadCmd (arg.extractLsb' 0 16)) ∧
    decode (op32 0x02 arg) = some (.push (arg.extractLsb' 0 8)) ∧
    decode (op32 0x03 arg) = some .endFrame ∧
    decode (op32 0x04 arg) = some .abort ∧
    decode (op32 0x08 arg) = some .rdStatus ∧
    decode (op32 0x10 arg) = some (.crcCompute (arg.extractLsb' 8 8) (arg.extractLsb' 0 8)) ∧
    decode (op32 0x11 arg) =
      some (.crcVerify (arg.extractLsb' 16 8) (arg.extractLsb' 8 8) (arg.extractLsb' 0 8)) ∧
    decode (op32 0x20 arg) = some (.rdByte (arg.extractLsb' 0 7)) ∧
    decode (op32 0x21 arg) = some (.rdFlag (arg.extractLsb' 3 2) (arg.extractLsb' 0 3)) ∧
    decode (op32 0x22 arg) = some .rdDataReady ∧
    decode (op32 0x30 arg) = some .flagFanSpeedWarning ∧
    decode (op32 0x31 arg) = some .flagPmError ∧
    decode (op32 0x32 arg) = some .flagCo2Error ∧
    decode (op32 0x33 arg) = some .flagGasError ∧
    decode (op32 0x34 arg) = some .flagRhtError ∧
    decode (op32 0x35 arg) = some .flagFanError ∧
    decode (op32 0x40 arg) = some .measPm1_0 ∧
    decode (op32 0x41 arg) = some .measPm2_5 ∧
    decode (op32 0x42 arg) = some .measPm4_0 ∧
    decode (op32 0x43 arg) = some .measPm10_0 ∧
    decode (op32 0x44 arg) = some .measHumidity ∧
    decode (op32 0x45 arg) = some .measTemperature ∧
    decode (op32 0x46 arg) = some .measVoc ∧
    decode (op32 0x47 arg) = some .measNox ∧
    decode (op32 0x48 arg) = some .measCo2

/-- Words written out in spec/30_encoding.md R74 and R67 decode to what stands beside them. -/
def Obligations.SampleWordsDecode : Prop :=
  decode (.op32 0x0100D206) = some (.loadCmd 0xD206) ∧
  decode (.op32 0x020000A2) = some (.push 0xA2) ∧
  decode (.op32 0x11BEEF92) = some (.crcVerify 0xBE 0xEF 0x92) ∧
  decode (.op32 0x2100000D) = some (.rdFlag 1 5) ∧
  decode (.op32 0x20000042) = some (.rdByte 0x42) ∧
  decode (.op32 0x47000000) = some .measNox ∧
  decode (.cmd16 0xD014) = some .getProductName

/-- THE MODEL'S CHOICE (log 2): a command word given alone decodes, and does in every state what the LOAD_CMD that
carries it does (spec/30_encoding.md R66, R74). -/
def Obligations.CommandWordActsAsItsLoadCmd : Prop :=
  ∀ (w : Word16), ∃ i, decode (.cmd16 w) = some i ∧ i.commandWord = some w ∧
    ∀ s : State, exec i s = exec (.loadCmd w) s

/-! ## The step and reset -/

/-- A step takes the first word on the port and, when it decodes to an instruction, executes that instruction in the
state without that word (spec/20_memory.md R49; the port as a list in State is the model's form, log 1). -/
def Obligations.StepRunsTheDecodedInstruction : Prop :=
  ∀ (s : State) (p : PortWord) (rest : List HostInput) (i : Instr),
    s.inputs = .word p :: rest → decode p = some i → i.wf = true → step s = exec i { s with inputs := rest }

/-- With nothing on the port a step changes nothing: the block starts nothing on its own
(spec/70_reset_and_hazards.md section 2; that this is a step is the model's choice, log 1). -/
def Obligations.EmptyPortChangesNothing : Prop :=
  ∀ s : State, s.inputs = [] → step s = .next s

/-- spec/70_reset_and_hazards.md section 1: the state after reset, every row of its table with a value, at
`State.reset` and after a reset event in any state; and what the host reads straight after, which the spec marks
"derived: from this rule" and its field operations. Nothing is said of HI, LO, STG, which the table leaves unspecified,
nor of RES. What stays on the port after a reset event is the model's choice (log 6). -/
def Obligations.ResetGivesTheStateOfTheSpec : Prop :=
  State.reset.AtReset ∧
  (∀ (s : State) (rest : List HostInput), s.inputs = .reset :: rest →
    ∃ t, step s = .next t ∧ t.AtReset ∧ t.inputs = rest) ∧
  ∀ t : State, t.AtReset →
    resOf .rdStatus t = some 0x00000000 ∧
    resOf .rdDataReady t = some 0 ∧
    (∀ i ∈ [Instr.flagFanSpeedWarning, .flagPmError, .flagCo2Error, .flagGasError, .flagRhtError, .flagFanError],
      resOf i t = some 1) ∧
    (∀ i ∈ [Instr.measPm1_0, .measPm2_5, .measPm4_0, .measPm10_0, .measCo2], resOf i t = some 0x0000FFFF) ∧
    (∀ i ∈ [Instr.measHumidity, .measTemperature, .measVoc, .measNox], resOf i t = some 0xFFFFFFFF) ∧
    ∀ a : BitVec 7,
      (a.toNat < 0x40 → resOf (.rdByte a) t = some 0x15) ∧
      (0x40 ≤ a.toNat → a.toNat < 0x42 → resOf (.rdByte a) t = some 0x00) ∧
      (0x42 ≤ a.toNat → a.toNat < 0x58 → resOf (.rdByte a) t = some 0xFF)

/-- The invariant holds after reset. -/
def Obligations.ResetMeetsTheInvariant : Prop := State.reset.Inv

/-- Every step keeps the invariant: the snapshot's canonical form (log 8), the descriptor's shape, CNT <= RLEN, and
RESULT in step with PHASE (spec/10_state.md R17, R19, R20, the sentences that say "Invariant"). -/
def Obligations.StepKeepsTheInvariant : Prop :=
  ∀ s t : State, s.Inv → step s = .next t → t.Inv

/-- The snapshot has one representation: two canonical snapshots that read alike at every address are equal data
(log 8). -/
def Obligations.SnapshotsThatReadAlikeAreEqual : Prop :=
  ∀ m n : Memory, m.wf → n.wf → (∀ a, m.read a = n.read a) → m = n

/-! ## The checksum -/

/-- The loop and the bit-serial form of spec/40_checksum.md section 1, most significant bit of the byte first, are
`crc_byte`. The spec marks the loop "[from general knowledge, not in source]" and the bit-serial form as derived (its
GK1; log 14). -/
def Obligations.CrcByteIsTheLoopAndTheBitSerialForm : Prop :=
  ∀ c b : Byte,
    crcByte c b =
      (fun x : Byte => if x.getLsbD 7 then (x <<< 1) ^^^ 0x31#8 else x <<< 1)^[8] (c ^^^ b) ∧
    crcByte c b =
      [7, 6, 5, 4, 3, 2, 1, 0].foldl
        (fun (x : Byte) (k : Nat) =>
          (x <<< 1) ^^^ (if Bool.xor (x.getLsbD 7) (b.getLsbD k) then 0x31#8 else 0x00#8)) c

/-- spec/40_checksum.md R82, R85: for each word exactly one checksum byte is accepted, the one `crc8` gives. -/
def Obligations.EachWordAcceptsExactlyItsChecksum : Prop :=
  ∀ hi lo rx : Byte, verify hi lo (crc8 hi lo) = true ∧ (rx ≠ crc8 hi lo → verify hi lo rx = false) ∧
    (verify hi lo rx = true ↔ crc8 hi lo = rx)

/-- spec/40_checksum.md section 3, the first two laws of R86: `crc8` is a bijection in each byte, and affine. -/
def Obligations.ChecksumIsBijectiveInEachByteAndAffine : Prop :=
  (∀ hi : Byte, Function.Bijective (fun lo => crc8 hi lo)) ∧
  (∀ lo : Byte, Function.Bijective (fun hi => crc8 hi lo)) ∧
  ∀ a b x y a' b' : Byte,
    crc8 (a ^^^ x) (b ^^^ y) ^^^ crc8 a b = crc8 (a' ^^^ x) (b' ^^^ y) ^^^ crc8 a' b'

/-- spec/40_checksum.md section 3, the third law of R86: every change of one bit, and of two bits, among the 24 bits
of a valid chunk makes it invalid. -/
def Obligations.OneAndTwoBitChangesOfAChunkAreDetected : Prop :=
  ∀ (hi lo rx : Byte) (j k : Nat) (x y z : Byte),
    verify hi lo rx = true → j < 24 → k < 24 →
    (x ++ (y ++ z) : BitVec 24) = 1#24 <<< j ∨ (j ≠ k ∧ (x ++ (y ++ z) : BitVec 24) = (1#24 <<< j) ^^^ (1#24 <<< k)) →
    verify (hi ^^^ x) (lo ^^^ y) (rx ^^^ z) = false

/-- spec/40_checksum.md R80, R83: CRC_COMPUTE returns `crc8` of its two bytes, byte 0 first from 0xFF, writes no state
and no flag, in every phase. -/
def Obligations.CrcComputeReturnsTheChecksum : Prop :=
  ∀ (w0 w1 x : Byte) (s : State),
    decode (op32 0x10 (x ++ (w0 ++ w1))) = some (.crcCompute w0 w1) ∧
    exec (.crcCompute w0 w1) s = .next { s with res := 0#24 ++ crc8 w0 w1 } ∧
    crc8 w0 w1 = crcByte (crcByte 0xFF w0) w1 ∧
    crc8 0x00 0x00 = 0x81 ∧ crc8 0xFF 0xFF = 0xAC ∧ crc8 0xBE 0xEF = 0x92

/-- spec/40_checksum.md R84: CRC_VERIFY answers 1 for a valid chunk and 0 otherwise, raises nothing and writes no
state, in every phase; a chunk of zeros and a chunk of ones are invalid. -/
def Obligations.CrcVerifyAnswersAndRaisesNothing : Prop :=
  ∀ (w0 w1 rx : Byte) (s : State),
    decode (op32 0x11 (w0 ++ (w1 ++ rx))) = some (.crcVerify w0 w1 rx) ∧
    exec (.crcVerify w0 w1 rx) s = .next { s with res := if crc8 w0 w1 = rx then 1 else 0 } ∧
    crc8 0x00 0x00 ≠ 0x00 ∧ crc8 0xFF 0xFF ≠ 0xFF

/-! ## The frame decoder -/

/-- spec/41_frame_decoder.md R91 to R94: when each of the three outcomes of `decode_frame` is given, and which byte of
the payload is which byte of the frame. The empty frame is the case of length 0. -/
def Obligations.FrameOutcomeAndPayloadByIndex : Prop :=
  ∀ f : List Byte,
    (decodeFrame f = .lengthError ↔ f.length % 3 ≠ 0) ∧
    (decodeFrame f = .checksumError ↔
      f.length % 3 = 0 ∧
        ∃ i, i < f.length / 3 ∧ verify (f.getD (3 * i) 0) (f.getD (3 * i + 1) 0) (f.getD (3 * i + 2) 0) = false) ∧
    ∀ p : List Byte,
      (decodeFrame f = .ok p ↔
        f.length % 3 = 0 ∧
        (∀ i, i < f.length / 3 →
          verify (f.getD (3 * i) 0) (f.getD (3 * i + 1) 0) (f.getD (3 * i + 2) 0) = true) ∧
        p.length = f.length * 2 / 3 ∧
        ∀ k, k < f.length → k % 3 ≠ 2 → p.getD (k / 3 * 2 + k % 3) 0 = f.getD k 0)

/-- spec/41_frame_decoder.md section 1: `encode_frame` puts the checksum after each pair of bytes, decoding gives the
payload back (the spec marks this "derived"), and changing any one checksum byte gives ChecksumError. -/
def Obligations.EncodedFrameDecodesBackAndOneBadChecksumRejects : Prop :=
  ∀ p : List Byte, p.length % 2 = 0 →
    (encodeFrame p).length = p.length / 2 * 3 ∧
    (∀ i, i < p.length / 2 →
      (encodeFrame p).getD (3 * i) 0 = p.getD (2 * i) 0 ∧
      (encodeFrame p).getD (3 * i + 1) 0 = p.getD (2 * i + 1) 0 ∧
      (encodeFrame p).getD (3 * i + 2) 0 = crc8 (p.getD (2 * i) 0) (p.getD (2 * i + 1) 0)) ∧
    decodeFrame (encodeFrame p) = .ok p ∧
    ∀ i c, i < p.length / 2 → c ≠ (encodeFrame p).getD (3 * i + 2) 0 →
      decodeFrame ((encodeFrame p).set (3 * i + 2) c) = .checksumError

/-! ## The catalogue -/

/-- spec/42_catalog.md R111: `lookup`, row by row, and Unknown for every other word. -/
def Obligations.LookupGivesTheElevenRowsAndNoOther : Prop :=
  ∀ w : Word16,
    (lookup w).map (fun e => (e.rlen.toNat, e.dest)) =
      if w = 0xD014 then some (48, .productName)
      else if w = 0xD033 then some (48, .serialNumber)
      else if w = 0x0202 then some (3, .dataReady)
      else if w = 0xD206 then some (6, .deviceStatus)
      else if w = 0xD210 then some (6, .deviceStatus)
      else if w = 0x0300 then some (27, .measuredValues)
      else if w = 0x0021 then some (0, .none)
      else if w = 0x0104 then some (0, .none)
      else if w = 0xD304 then some (0, .none)
      else if w = 0x5607 then some (0, .none)
      else if w = 0x6765 then some (0, .none)
      else none

/-- spec/42_catalog.md section 3, the invariants of R113: every response is whole chunks, fills its field exactly, and
is empty exactly when there is no field; no two rows have the same word. -/
def Obligations.EveryCatalogueRowFillsItsField : Prop :=
  (∀ e ∈ catalog,
    e.rlen.toNat % 3 = 0 ∧ e.rlen.toNat * 2 / 3 = destSize e.dest ∧ (e.dest = .none ↔ e.rlen = 0)) ∧
  (catalog.map CatalogEntry.word).Nodup

/-- spec/42_catalog.md sections 1 and 2: outside RECEIVING each command word latches its own RLEN and DEST, starts an
exchange, and writes no snapshot byte. That the word is given alone is the model's choice (log 2). -/
def Obligations.EachCommandWordLatchesItsRow : Prop :=
  ∀ s : State, s.phase ≠ .receiving →
    ∀ row ∈ [(Instr.getProductName, (0xD014#16, 48#6, Dest.productName)),
        (.getSerialNumber, (0xD033, 48, .serialNumber)),
        (.getDataReady, (0x0202, 3, .dataReady)),
        (.readDeviceStatus, (0xD206, 6, .deviceStatus)),
        (.readAndClearDeviceStatus, (0xD210, 6, .deviceStatus)),
        (.readMeasuredValues, (0x0300, 27, .measuredValues)),
        (.startContinuousMeasurement, (0x0021, 0, .none)),
        (.stopMeasurement, (0x0104, 0, .none)),
        (.deviceReset, (0xD304, 0, .none)),
        (.startFanCleaning, (0x5607, 0, .none)),
        (.activateShtHeater, (0x6765, 0, .none))],
      exec row.1 s =
        .next { s with cmdreg := row.2.1, rlen := row.2.2.1, dest := row.2.2.2, cnt := 0, bad := false,
                       overrun := false, phase := .receiving, result := .none, res := 0 }

/-- spec/42_catalog.md section 2: a write-only command ended by END with no byte validates and commits nothing. -/
def Obligations.WriteOnlyCommandValidatesAndCommitsNothing : Prop :=
  ∀ s : State, s.phase ≠ .receiving →
    ∀ w ∈ [0x0021#16, 0x0104, 0xD304, 0x5607, 0x6765],
      runInstrs (pseudoWriteOnly w) s =
        .next { s with cmdreg := w, rlen := 0, dest := .none, cnt := 0, bad := false, overrun := false,
                       phase := .validated, result := .ok, res := 1 }

/-! ## The sequencer -/

/-- spec/43_sequencer.md R120: LOAD_CMD of a known word outside RECEIVING. -/
def Obligations.LoadCmdOfAKnownWordStartsAnExchange : Prop :=
  ∀ (s : State) (w : Word16) (x : BitVec 8) (e : CatalogEntry),
    decode (op32 0x01 (x ++ w)) = some (.loadCmd w) ∧
    (s.phase ≠ .receiving → lookup w = some e →
      exec (.loadCmd w) s =
        .next { s with cmdreg := w, rlen := e.rlen, dest := e.dest, cnt := 0, bad := false, overrun := false,
                       phase := .receiving, result := .none, res := 0 })

/-- spec/43_sequencer.md R121: LOAD_CMD of an unknown word outside RECEIVING. -/
def Obligations.LoadCmdOfAnUnknownWordRejects : Prop :=
  ∀ (s : State) (w : Word16) (x : BitVec 8),
    decode (op32 0x01 (x ++ w)) = some (.loadCmd w) ∧
    (s.phase ≠ .receiving → lookup w = none →
      exec (.loadCmd w) s = .next { s with cmdreg := w, phase := .rejected, result := .unknownCommand, res := 5 })

/-- spec/43_sequencer.md R122: PUSH in RECEIVING. The invariant gives RESULT = NONE there (spec/10_state.md R20) and
keeps the index inside the staging buffer. -/
def Obligations.PushStagesCountsAndChecks : Prop :=
  ∀ (s : State) (b : Byte) (x : BitVec 16),
    decode (op32 0x02 (x ++ b)) = some (.push b) ∧
    (s.Inv → s.phase = .receiving →
      (s.cnt = s.rlen → exec (.push b) s = .next { s with overrun := true, res := 0 }) ∧
      (s.cnt ≠ s.rlen →
        (s.cnt + 1).toNat = s.cnt.toNat + 1 ∧ s.cnt.toNat / 3 * 2 + 1 < 32 ∧
        (s.cnt.toNat % 3 = 0 →
          exec (.push b) s =
            .next { s with hi := b, stg := s.stg.setIfInBounds (s.cnt.toNat / 3 * 2) b, cnt := s.cnt + 1, res := 0 }) ∧
        (s.cnt.toNat % 3 = 1 →
          exec (.push b) s =
            .next { s with lo := b, stg := s.stg.setIfInBounds (s.cnt.toNat / 3 * 2 + 1) b, cnt := s.cnt + 1,
                           res := 0 }) ∧
        (s.cnt.toNat % 3 = 2 →
          exec (.push b) s =
            .next { s with bad := if crc8 s.hi s.lo = b then s.bad else true, cnt := s.cnt + 1, res := 0 })))

/-- spec/60_exceptions.md R171, R172: END in RECEIVING rejects a frame of the wrong length, and one of the right length
with a bad chunk, in this order, and writes nothing else. -/
def Obligations.EndRejectsWrongLengthThenBadChecksum : Prop :=
  ∀ s : State, s.phase = .receiving →
    (s.overrun = true ∨ s.cnt ≠ s.rlen →
      exec .endFrame s = .next { s with phase := .rejected, result := .lengthError, res := 3 }) ∧
    (s.overrun = false → s.cnt = s.rlen → s.bad = true →
      exec .endFrame s = .next { s with phase := .rejected, result := .checksumError, res := 2 })

/-- spec/43_sequencer.md R124 with the third arm of R123: END of a good frame commits the payload to the destination
field, byte j from STG[j], leaves every other snapshot byte, and writes nothing else but PHASE and RESULT. -/
def Obligations.EndOfAGoodFrameCommitsItsPayload : Prop :=
  ∀ (s : State) (arg : BitVec 24),
    decode (op32 0x03 arg) = some .endFrame ∧
    (s.Inv → s.phase = .receiving → s.overrun = false → s.cnt = s.rlen → s.bad = false →
      s.rlen.toNat * 2 / 3 = destSize s.dest ∧ destSize s.dest ≤ 32 ∧
      ∃ m : Memory,
        exec .endFrame s = .next { s with snap := m, phase := .validated, result := .ok, res := 1 } ∧
        (∀ j, j < destSize s.dest → m.read (destBase s.dest + j) = s.stg[j]?) ∧
        ∀ a, a < destBase s.dest ∨ destBase s.dest + destSize s.dest ≤ a → m.read a = s.snap.read a)

/-- The frame of END, in every state: only PHASE, RESULT, RES and the snapshot can change, and of the snapshot only the
destination field, and that only when END validates (spec/43_sequencer.md R123, R124, spec/20_memory.md R45). -/
def Obligations.EndWritesOnlyTheDestinationField : Prop :=
  ∀ s t : State, exec .endFrame s = .next t →
    t = { s with snap := t.snap, phase := t.phase, result := t.result, res := t.res } ∧
    ∀ a, a < destBase s.dest ∨ destBase s.dest + s.payload.length ≤ a ∨ s.dest = .none ∨ t.phase ≠ .validated →
      t.snap.read a = s.snap.read a

/-- spec/43_sequencer.md R125: ABORT in RECEIVING. -/
def Obligations.AbortRejectsWithTransportError : Prop :=
  ∀ (s : State) (arg : BitVec 24),
    decode (op32 0x04 arg) = some .abort ∧
    (s.phase = .receiving →
      exec .abort s = .next { s with phase := .rejected, result := .transportError, res := 4 })

/-- spec/43_sequencer.md R126: RD_STATUS in every phase, field by field, and it writes no state. -/
def Obligations.RdStatusReturnsTheControlRegisters : Prop :=
  ∀ (s : State) (arg : BitVec 24),
    decode (op32 0x08 arg) = some .rdStatus ∧
    ∃ v : Word32, exec .rdStatus s = .next { s with res := v } ∧
      (v.extractLsb' 0 2).toNat = (match s.phase with
        | .idle => 0 | .receiving => 1 | .validated => 2 | .rejected => 3) ∧
      v.extractLsb' 2 2 = 0 ∧
      (v.extractLsb' 4 3).toNat = (match s.result with
        | .none => 0 | .ok => 1 | .checksumError => 2 | .lengthError => 3 | .transportError => 4
        | .unknownCommand => 5 | .protocolError => 6) ∧
      v.extractLsb' 7 1 = 0 ∧
      v.extractLsb' 8 6 = s.cnt ∧
      v.extractLsb' 14 2 = 0 ∧
      v.extractLsb' 16 6 = s.rlen ∧
      v.extractLsb' 22 2 = 0 ∧
      (v.extractLsb' 24 3).toNat = (match s.dest with
        | .none => 0 | .productName => 1 | .serialNumber => 2 | .dataReady => 3 | .deviceStatus => 4
        | .measuredValues => 5) ∧
      v.extractLsb' 27 5 = 0

/-- spec/60_exceptions.md section 1 with the writes of spec/43_sequencer.md section 2: LOAD_CMD in RECEIVING, and PUSH,
END or ABORT outside it, reject with PROTOCOL_ERROR and write nothing else, whatever the operand. That a bare command
word is a LOAD_CMD here too is THE MODEL'S CHOICE (log 2). -/
def Obligations.WrongPhaseIsAProtocolError : Prop :=
  ∀ s : State,
    (s.phase = .receiving → ∀ i : Instr, i.commandWord ≠ none →
      exec i s = .next { s with phase := .rejected, result := .protocolError, res := 6 }) ∧
    (s.phase ≠ .receiving → ∀ i : Instr, (∃ b, i = .push b) ∨ i = .endFrame ∨ i = .abort →
      exec i s = .next { s with phase := .rejected, result := .protocolError, res := 6 })

/-- spec/43_sequencer.md section 3: the phase machine, every row, and that it is total. In RECEIVING the invariant gives
RESULT = NONE (spec/10_state.md R20). That the rows of LOAD_CMD hold of a bare command word too is THE MODEL'S CHOICE
(log 2). -/
def Obligations.PhaseMachineHasExactlyTheseTransitions : Prop :=
  (∀ (i : Instr) (s : State), s.Inv → ∃ t, exec i s = .next t ∧
    (i.isQuery = true → t.phase = s.phase ∧ t.result = s.result) ∧
    (∀ w, i.commandWord = some w → s.phase ≠ .receiving →
      ((lookup w).isSome = true → t.phase = .receiving ∧ t.result = .none) ∧
      (lookup w = none → t.phase = .rejected ∧ t.result = .unknownCommand)) ∧
    (∀ w, i.commandWord = some w → s.phase = .receiving → t.phase = .rejected ∧ t.result = .protocolError) ∧
    ((∃ b, i = .push b) ∨ i = .endFrame ∨ i = .abort → s.phase ≠ .receiving →
      t.phase = .rejected ∧ t.result = .protocolError) ∧
    ((∃ b, i = .push b) → s.phase = .receiving → t.phase = .receiving ∧ t.result = .none) ∧
    (i = .endFrame → s.phase = .receiving →
      (s.overrun = true ∨ s.cnt ≠ s.rlen → t.phase = .rejected ∧ t.result = .lengthError) ∧
      (s.overrun = false → s.cnt = s.rlen → s.bad = true → t.phase = .rejected ∧ t.result = .checksumError) ∧
      (s.overrun = false → s.cnt = s.rlen → s.bad = false → t.phase = .validated ∧ t.result = .ok)) ∧
    (i = .abort → s.phase = .receiving → t.phase = .rejected ∧ t.result = .transportError) ∧
    (t.phase = .idle → s.phase = .idle)) ∧
  ∀ (s : State) (rest : List HostInput), s.inputs = .reset :: rest →
    ∃ t, step s = .next t ∧ t.phase = .idle ∧ t.result = .none

/-- spec/43_sequencer.md section 3: an exchange, byte by byte, with queries and checksum operations interleaved
anywhere, ends as `decode_frame` of the whole frame says. The spec gives it as rule R128 and marks it "derived: from
rules R120, R122, R123, R124" and the decoder's R90. -/
def Obligations.ExchangeAgreesWithDecodeFrame : Prop :=
  ∀ (s : State) (w : Word16) (e : CatalogEntry) (f : List Byte) (ops : List Instr),
    s.phase ≠ .receiving → lookup w = some e →
    ops.filter (fun i => !i.isQuery) = pseudoExchange w f →
    (decodeFrame f = .lengthError → f.length ≠ e.rlen.toNat) ∧
    ∃ t, runInstrs ops s = .next t ∧
      t.cmdreg = w ∧ t.rlen = e.rlen ∧ t.dest = e.dest ∧ t.cnt.toNat = min f.length e.rlen.toNat ∧
      (f.length ≠ e.rlen.toNat → t.phase = .rejected ∧ t.result = .lengthError ∧ t.snap = s.snap) ∧
      (f.length = e.rlen.toNat → decodeFrame f = .checksumError →
        t.phase = .rejected ∧ t.result = .checksumError ∧ t.snap = s.snap) ∧
      ∀ p, f.length = e.rlen.toNat → decodeFrame f = .ok p →
        t.phase = .validated ∧ t.result = .ok ∧ p.length = destSize e.dest ∧
        ∀ a, t.snap.read a =
          if destBase e.dest ≤ a ∧ a < destBase e.dest + destSize e.dest then p[a - destBase e.dest]?
          else s.snap.read a

/-! ## The snapshot and the rejection -/

/-- Whole machine, over steps: a snapshot byte changes only by reset or by an END that validates, and then it lies in
the destination field (spec/10_state.md R15, spec/43_sequencer.md R124). -/
def Obligations.OnlyResetOrAValidatingEndChangesTheSnapshot : Prop :=
  ∀ (s t : State) (a : Nat), s.Inv → step s = .next t → t.snap.read a ≠ s.snap.read a →
    (∃ rest, s.inputs = .reset :: rest) ∨
    ((∃ p rest, s.inputs = .word p :: rest ∧ decode p = some .endFrame) ∧
      s.phase = .receiving ∧ t.phase = .validated ∧ t.result = .ok ∧
      destBase s.dest ≤ a ∧ a < destBase s.dest + destSize s.dest)

/-- spec/60_exceptions.md R177: when an exchange, begun by a LOAD_CMD and in RECEIVING until its last operation, is
rejected for any cause, every snapshot byte is what it was before the LOAD_CMD. -/
def Obligations.RejectedExchangeLeavesTheSnapshot : Prop :=
  ∀ (s t : State) (w : Word16) (ops : List Instr),
    s.phase ≠ .receiving →
    (∀ (pre post : List Instr) (u : State), ops = pre ++ post → post ≠ [] →
      runInstrs (.loadCmd w :: pre) s = .next u → u.phase = .receiving) →
    runInstrs (.loadCmd w :: ops) s = .next t → t.phase = .rejected →
    ∀ a, t.snap.read a = s.snap.read a

/-- REJECTED is a resting phase: until a command is loaded, every operation is served or is a PROTOCOL_ERROR, and the
snapshot stays (spec/60_exceptions.md R180, R181). -/
def Obligations.RejectionRestsUntilACommandIsLoaded : Prop :=
  ∀ (s : State) (ops : List Instr), s.phase = .rejected → (∀ i ∈ ops, i.commandWord = none) →
    ∃ t, runInstrs ops s = .next t ∧ t.phase = .rejected ∧
      (t.result = s.result ∨ t.result = .protocolError) ∧
      ((∀ i ∈ ops, i.isQuery = true) → t.result = s.result) ∧
      ∀ a, t.snap.read a = s.snap.read a

/-! ## The field operations -/

/-- spec/44_fields.md section 1: RD_BYTE of 0x57 or below returns the byte, zero-extended; above, RES[31:8] is 0 and the
byte is any value. No other state changes. That the model's own counter moves on is THE MODEL'S CHOICE (log 5). -/
def Obligations.RdByteReturnsTheSnapshotByte : Prop :=
  ∀ (s : State) (addr : BitVec 7) (x : BitVec 17),
    decode (op32 0x20 (x ++ addr)) = some (.rdByte addr) ∧
    (addr.toNat ≤ 0x57 → ∃ b, s.snap.read addr.toNat = some b ∧
      exec (.rdByte addr) s = .next { s with res := 0#24 ++ b }) ∧
    (0x58 ≤ addr.toNat → s.snap.read addr.toNat = none ∧
      ∃ b : Byte, exec (.rdByte addr) s = .next { s with res := 0#24 ++ b, freeCount := s.freeCount + 1 })

/-- spec/44_fields.md R141: RD_FLAG returns bit BITIX of byte BYTEIX of `device_status`, whose byte 0 is at 0x42. -/
def Obligations.RdFlagReturnsTheBit : Prop :=
  ∀ (s : State) (y : BitVec 2) (k : BitVec 3) (x : BitVec 19) (b : Byte),
    decode (op32 0x21 (x ++ (y ++ k))) = some (.rdFlag y k) ∧
    (s.snap.read (0x42 + y.toNat) = some b →
      exec (.rdFlag y k) s = .next { s with res := if (b &&& (1#8 <<< k.toNat)) ≠ 0 then 1 else 0 } ∧
      (((b &&& (1#8 <<< k.toNat)) ≠ 0) ↔ b.getLsbD k.toNat = true))

/-- spec/44_fields.md R143 to R148: each named flag returns its bit, PM and CO2 the same one, and 1 after reset. -/
def Obligations.NamedFlagsReturnTheirBits : Prop :=
  (∀ arg : BitVec 24,
    decode (op32 0x30 arg) = some .flagFanSpeedWarning ∧ decode (op32 0x31 arg) = some .flagPmError ∧
    decode (op32 0x32 arg) = some .flagCo2Error ∧ decode (op32 0x33 arg) = some .flagGasError ∧
    decode (op32 0x34 arg) = some .flagRhtError ∧ decode (op32 0x35 arg) = some .flagFanError) ∧
  (∀ (s : State) (b1 b2 b3 : Byte),
    s.snap.read 0x43 = some b1 → s.snap.read 0x44 = some b2 → s.snap.read 0x45 = some b3 →
    exec .flagFanSpeedWarning s = .next { s with res := if b1.getLsbD 5 then 1 else 0 } ∧
    exec .flagPmError s = .next { s with res := if b2.getLsbD 1 then 1 else 0 } ∧
    exec .flagCo2Error s = .next { s with res := if b2.getLsbD 1 then 1 else 0 } ∧
    exec .flagGasError s = .next { s with res := if b3.getLsbD 7 then 1 else 0 } ∧
    exec .flagRhtError s = .next { s with res := if b3.getLsbD 6 then 1 else 0 } ∧
    exec .flagFanError s = .next { s with res := if b3.getLsbD 4 then 1 else 0 }) ∧
  (∀ s : State, exec .flagPmError s = exec .flagCo2Error s) ∧
  ∀ i ∈ [Instr.flagFanSpeedWarning, .flagPmError, .flagCo2Error, .flagGasError, .flagRhtError, .flagFanError],
    resOf i State.reset = some 1

/-- spec/44_fields.md R149: RD_DATA_READY says whether byte 1 of `data_ready`, at 0x41, is non-zero; byte 0 plays no
part; 0 after reset. -/
def Obligations.RdDataReadyLooksAtByteOne : Prop :=
  (∀ (s : State) (arg : BitVec 24) (b : Byte),
    decode (op32 0x22 arg) = some .rdDataReady ∧
    (s.snap.read 0x41 = some b → exec .rdDataReady s = .next { s with res := if b ≠ 0x00 then 1 else 0 })) ∧
  resOf .rdDataReady State.reset = some 0

/-- spec/44_fields.md R151 to R154, R159: the five unsigned words, high byte first from the even address, as a number
0 to 65535; 65535 after reset. -/
def Obligations.UnsignedMeasurementsReturnTheirWord : Prop :=
  ∀ row ∈ [(Instr.measPm1_0, (0x40#8, 0x46)), (.measPm2_5, (0x41, 0x48)), (.measPm4_0, (0x42, 0x4A)),
      (.measPm10_0, (0x43, 0x4C)), (.measCo2, (0x48, 0x56))],
    (∀ arg : BitVec 24, decode (op32 row.2.1 arg) = some row.1) ∧
    (∀ (s : State) (hi lo : Byte), s.snap.read row.2.2 = some hi → s.snap.read (row.2.2 + 1) = some lo →
      ∃ v : Word32, exec row.1 s = .next { s with res := v } ∧ v = 0#16 ++ (hi ++ lo) ∧
        v.toNat = hi.toNat * 256 + lo.toNat) ∧
    resOf row.1 State.reset = some 0x0000FFFF

/-- spec/44_fields.md R155 to R158: the four signed words, as a two's-complement number -32768 to 32767; -1 after
reset. -/
def Obligations.SignedMeasurementsReturnTheirWord : Prop :=
  ∀ row ∈ [(Instr.measHumidity, (0x44#8, 0x4E)), (.measTemperature, (0x45, 0x50)), (.measVoc, (0x46, 0x52)),
      (.measNox, (0x47, 0x54))],
    (∀ arg : BitVec 24, decode (op32 row.2.1 arg) = some row.1) ∧
    (∀ (s : State) (hi lo : Byte), s.snap.read row.2.2 = some hi → s.snap.read (row.2.2 + 1) = some lo →
      ∃ v : Word32, exec row.1 s = .next { s with res := v } ∧
        v.extractLsb' 0 16 = (hi ++ lo : Word16) ∧
        v.toInt = (if hi.toNat * 256 + lo.toNat < 32768 then (hi.toNat * 256 + lo.toNat : Int)
          else (hi.toNat * 256 + lo.toNat : Int) - 65536)) ∧
    resOf row.1 State.reset = some 0xFFFFFFFF

/-- spec/20_memory.md R47, the first half: every query answers a next state in which every register but RES, every
snapshot byte and everything on the port is the same, in every phase. -/
def Obligations.QueriesWriteNothingButRes : Prop :=
  ∀ (i : Instr) (s : State), i.isQuery = true → ∃ t, exec i s = .next t ∧ s.SameButRes t

/-- spec/20_memory.md R47, the second half: a query repeated with any queries in between returns the same RES. RD_BYTE
above 0x57 is left out: its byte is any value (spec/20_memory.md R42; log 5). -/
def Obligations.RepeatedQueryReturnsTheSame : Prop :=
  ∀ (i : Instr) (qs : List Instr) (s u : State),
    i.isQuery = true → (∀ a, i = .rdByte a → a.toNat ≤ 0x57) → (∀ q ∈ qs, q.isQuery = true) →
    runInstrs qs s = .next u → resOf i u = resOf i s

/-! ## Frames and hidden state -/

/-- The frame of every instruction but END, for the snapshot: each of them answers a next state and every snapshot byte
reads as before; what is still on the port stays too (spec/43_sequencer.md R120 to R127, spec/20_memory.md R47). -/
def Obligations.EverythingButEndKeepsEverySnapshotByte : Prop :=
  ∀ (i : Instr) (s : State), i ≠ .endFrame →
    ∃ t, exec i s = .next t ∧ (∀ a, t.snap.read a = s.snap.read a) ∧ t.inputs = s.inputs

/-- The frame of every instruction, register by register: who may write what (spec/10_state.md sections 2 and 3, the
"written by" columns). -/
def Obligations.EachRegisterHasOnlyItsWriters : Prop :=
  ∀ (i : Instr) (s t : State), exec i s = .next t →
    (t.cmdreg ≠ s.cmdreg → s.phase ≠ .receiving ∧ i.commandWord = some t.cmdreg) ∧
    (t.rlen ≠ s.rlen ∨ t.dest ≠ s.dest →
      s.phase ≠ .receiving ∧ ∃ w e, i.commandWord = some w ∧ lookup w = some e ∧ t.rlen = e.rlen ∧ t.dest = e.dest) ∧
    (t.cnt ≠ s.cnt →
      (s.phase ≠ .receiving ∧ t.cnt = 0 ∧ ∃ w, i.commandWord = some w ∧ (lookup w).isSome = true) ∨
      (s.phase = .receiving ∧ s.cnt ≠ s.rlen ∧ t.cnt = s.cnt + 1 ∧ ∃ b, i = .push b)) ∧
    (t.phase ≠ s.phase ∨ t.result ≠ s.result → i.isQuery = false) ∧
    (t.hi ≠ s.hi → s.phase = .receiving ∧ i = .push t.hi ∧ s.cnt.toNat % 3 = 0) ∧
    (t.lo ≠ s.lo → s.phase = .receiving ∧ i = .push t.lo ∧ s.cnt.toNat % 3 = 1) ∧
    (t.stg ≠ s.stg → s.phase = .receiving ∧ ∃ b, i = .push b ∧ s.cnt ≠ s.rlen ∧ s.cnt.toNat % 3 ≠ 2) ∧
    (t.bad ≠ s.bad → (t.bad = true ∧ s.phase = .receiving ∧ ∃ b, i = .push b) ∨
      (t.bad = false ∧ s.phase ≠ .receiving ∧ ∃ w, i.commandWord = some w ∧ (lookup w).isSome = true)) ∧
    (t.overrun ≠ s.overrun → (t.overrun = true ∧ s.phase = .receiving ∧ s.cnt = s.rlen ∧ ∃ b, i = .push b) ∨
      (t.overrun = false ∧ s.phase ≠ .receiving ∧ ∃ w, i.commandWord = some w ∧ (lookup w).isSome = true))

/-- What the hidden registers HI, LO, BAD, OVERRUN and STG hold when no exchange is in progress is never seen: two states
outside RECEIVING that differ at most in them give the same RES for every operation of every sequence
(spec/10_state.md R22 to R26). So the reset values the model chose for HI, LO and STG (log 3) matter to no result. -/
def Obligations.HiddenRegistersOutsideAnExchangeReachNoResult : Prop :=
  ∀ (s t : State) (ops : List Instr), s.phase ≠ .receiving → s.AgreesButHidden t →
    resTrace ops s = resTrace ops t ∧ (resTrace ops s).length = ops.length

/-! ## Information outside the block -/

/-- spec/70_reset_and_hazards.md R200, R201: the Timing Compensator and the table of execution times; information only,
outside the block (log 13). -/
def Obligations.CompensatorPadsByItsShift : Prop :=
  (∀ base shift : Nat, compensate base shift = base + base / 2 ^ shift ∧ compensate 0 shift = 0) ∧
  compensate 20 3 = 22 ∧ compensate 1000 3 = 1125 ∧ compensate 0 3 = 0 ∧
  catalog.map (fun e => (e.word.toNat, (e.execMs, compensatedWait e))) =
    [(0xD014, (20, 22)), (0xD033, (20, 22)), (0x0202, (20, 22)), (0xD206, (20, 22)), (0xD210, (20, 22)),
     (0x0300, (20, 22)), (0x0021, (50, 56)), (0x0104, (1000, 1125)), (0xD304, (1200, 1350)),
     (0x5607, (10020, 11272)), (0x6765, (21300, 23962))]
end

