-- ==== Sys2Proof/Laws/Encoding.lean ====
section
/-! SUPPORT. How the fields of a word put together by concatenation are taken out again, and the decoder in terms of
OPSEL and ARG. -/

namespace Sys2Proof

theorem extract_append_low {n m : Nat} (x : BitVec n) (y : BitVec m) (k l : Nat) (h : k + l ≤ m) :
    (x ++ y).extractLsb' k l = y.extractLsb' k l := by
  apply BitVec.eq_of_getLsbD_eq
  intro i hi
  simp [BitVec.getLsbD_append, hi, show k + i < m by omega]

theorem extract_append_high {n m : Nat} (x : BitVec n) (y : BitVec m) (k l : Nat) (h : m ≤ k) :
    (x ++ y).extractLsb' k l = x.extractLsb' (k - m) l := by
  apply BitVec.eq_of_getLsbD_eq
  intro i hi
  simp [BitVec.getLsbD_append, hi, show ¬(k + i < m) by omega, show k + i - m = k - m + i by omega]

theorem extract_all {n : Nat} (x : BitVec n) : x.extractLsb' 0 n = x := by
  apply BitVec.eq_of_getLsbD_eq
  intro i hi
  simp [hi]

theorem opsel_append (sel : BitVec 8) (arg : BitVec 24) : opsel (sel ++ arg) = sel := by
  rw [opsel, extract_append_high sel arg 24 8 (by decide)]
  exact extract_all sel

/-- An operation word is its OPSEL in front of its ARG (spec/30_encoding.md R61). -/
theorem word_split (w : Word32) : ∃ (sel : BitVec 8) (arg : BitVec 24), w = sel ++ arg := by
  refine ⟨w.extractLsb' 24 8, w.extractLsb' 0 24, ?_⟩
  apply BitVec.eq_of_getLsbD_eq
  intro i hi
  show w.getLsbD i = (w.extractLsb' 24 8 ++ w.extractLsb' 0 24 : BitVec (8 + 24)).getLsbD i
  rw [BitVec.getLsbD_append]
  by_cases h : i < 24
  · simp [h]
  · simp [h, show i - 24 < 8 by omega, show 24 + (i - 24) = i by omega]

/-! ## The ARG layouts of spec/30_encoding.md R63 -/

theorem word_arg (sel : BitVec 8) (arg : BitVec 24) (k l : Nat) (h : k + l ≤ 24) :
    BitVec.extractLsb' k l (sel ++ arg : Word32) = arg.extractLsb' k l := extract_append_low sel arg k l h

theorem arg_cmdw (w : Word16) : BitVec.extractLsb' 0 16 (0#8 ++ w : BitVec 24) = w :=
  (extract_append_low 0#8 w 0 16 (by decide)).trans (extract_all w)

theorem arg_byte (b : Byte) : BitVec.extractLsb' 0 8 (0#16 ++ b : BitVec 24) = b :=
  (extract_append_low 0#16 b 0 8 (by decide)).trans (extract_all b)

theorem pair_hi (x y : Byte) : BitVec.extractLsb' 8 8 (x ++ y) = x :=
  (extract_append_high x y 8 8 (by decide)).trans (extract_all x)

theorem pair_lo (x y : Byte) : BitVec.extractLsb' 0 8 (x ++ y) = y :=
  (extract_append_low x y 0 8 (by decide)).trans (extract_all y)

theorem arg_pair_hi (z x y : Byte) : BitVec.extractLsb' 8 8 (z ++ (x ++ y) : BitVec 24) = x :=
  (extract_append_low z (x ++ y) 8 8 (by decide)).trans (pair_hi x y)

theorem arg_pair_lo (z x y : Byte) : BitVec.extractLsb' 0 8 (z ++ (x ++ y) : BitVec 24) = y :=
  (extract_append_low z (x ++ y) 0 8 (by decide)).trans (pair_lo x y)

theorem arg_top (z x y : Byte) : BitVec.extractLsb' 16 8 (z ++ (x ++ y) : BitVec 24) = z :=
  (extract_append_high z (x ++ y) 16 8 (by decide)).trans (extract_all z)

theorem arg_addr (a : BitVec 7) : BitVec.extractLsb' 0 7 (0#17 ++ a : BitVec 24) = a :=
  (extract_append_low 0#17 a 0 7 (by decide)).trans (extract_all a)

theorem arg_byteix (y : BitVec 2) (i : BitVec 3) :
    BitVec.extractLsb' 3 2 (0#19 ++ (y ++ i) : BitVec 24) = y :=
  (extract_append_low 0#19 (y ++ i) 3 2 (by decide)).trans
    ((extract_append_high y i 3 2 (by decide)).trans (extract_all y))

theorem arg_bitix (y : BitVec 2) (i : BitVec 3) :
    BitVec.extractLsb' 0 3 (0#19 ++ (y ++ i) : BitVec 24) = i :=
  (extract_append_low 0#19 (y ++ i) 0 3 (by decide)).trans
    ((extract_append_low y i 0 3 (by decide)).trans (extract_all i))

/-- An operation word is canonical when its OPSEL is defined and its ARG fits the named bits. -/
theorem op32_canonical (sel : BitVec 8) (arg : BitVec 24) (h : opselDefined sel = true)
    (ha : arg.toNat < 2 ^ argBits sel) : (op32 sel arg).canonical = true := by
  have h1 : BitVec.extractLsb' 24 8 (sel ++ arg : Word32) = sel := opsel_append sel arg
  have h2 : BitVec.extractLsb' 0 24 (sel ++ arg : Word32) = arg :=
    (word_arg sel arg 0 24 (by decide)).trans (extract_all arg)
  simp only [op32, PortWord.canonical, h1, h2, h, Bool.true_and, decide_eq_true_eq]
  exact ha

end Sys2Proof
end

