-- ==== Sys2Proof/Laws/Memory.lean ====
section
/-! SUPPORT. The laws of the snapshot memory: a byte written is read back, every other byte stays, and every
operation keeps the canonical form. -/

namespace Sys2Proof.Machine

theorem Memory.read_of_lt (m : Memory) {a : Nat} (h : a < 88) : m.read a = some (m.cell ⟨a, h⟩) := by
  simp [Memory.read, h]

theorem Memory.read_of_ge (m : Memory) {a : Nat} (h : 88 ≤ a) : m.read a = none := by
  simp [Memory.read, Nat.not_lt.2 h]

/-- The lookup of one cell, as a condition on its address. -/
theorem Memory.lookup_cell (k x : Nat) (v : Byte) (t : Memory) :
    ((x, v) :: t).lookup k = if k = x then some v else t.lookup k := by
  by_cases h : k = x
  · simp [h]
  · simp [List.lookup_cons, h, beq_eq_false_iff_ne.2 h]

theorem Memory.lookup_put (m : Memory) (a : Nat) (b : Byte) (k : Nat) :
    (Memory.put a b m).lookup k = if k = a then some b else m.lookup k := by
  induction m with
  | nil => simp [Memory.put, Memory.lookup_cell]
  | cons c t ih =>
    obtain ⟨x, v⟩ := c
    simp only [Memory.put]
    split
    · simp [Memory.lookup_cell]
    · split
      · subst a; simp only [Memory.lookup_cell]; split <;> rfl
      · rename_i hne
        simp only [Memory.lookup_cell, ih]
        by_cases h : k = x
        · subst h; simp [Ne.symm hne]
        · simp [h]

theorem Memory.lookup_erase (m : Memory) (a k : Nat) :
    (m.filter (fun c => c.1 ≠ a)).lookup k = if k = a then none else m.lookup k := by
  induction m with
  | nil => simp
  | cons c t ih =>
    obtain ⟨x, v⟩ := c
    by_cases hx : x = a
    · subst hx
      rw [List.filter_cons_of_neg (by simp), ih, Memory.lookup_cell]
      split <;> rfl
    · rw [List.filter_cons_of_pos (by simpa using hx), Memory.lookup_cell, ih, Memory.lookup_cell]
      by_cases h : k = x
      · subst h; simp [hx]
      · simp [h]

/-- Reading after a write: the byte written at its address, and every other address as before; nothing is written
at 0x58 or above (spec/20_memory.md R42, R49). -/
theorem Memory.read_write (m : Memory) (a : Nat) (b : Byte) (k : Nat) :
    (m.write a b).read k = if k = a ∧ a < 88 then some b else m.read k := by
  unfold Memory.write
  by_cases ha : a < 88
  · by_cases hk : k < 88
    · simp only [ha, if_true, and_true, Memory.read_of_lt _ hk]
      split
      · rename_i hb
        simp only [Memory.cell, Memory.lookup_erase]
        by_cases h : k = a <;> simp [h, hb]
      · simp only [Memory.cell, Memory.lookup_put]
        by_cases h : k = a <;> simp [h]
    · have : k ≠ a := by omega
      simp [Memory.read, hk, this]
  · simp [ha]

/-- Reading after bytes were written in a row. -/
theorem Memory.read_writeBytes (m : Memory) (a : Nat) (bs : List Byte) (k : Nat) (h : a + bs.length ≤ 88) :
    (m.writeBytes a bs).read k = if a ≤ k ∧ k < a + bs.length then bs[k - a]? else m.read k := by
  induction bs generalizing m a with
  | nil =>
    rw [if_neg (by simp only [List.length_nil]; omega)]; rfl
  | cons b bs ih =>
    simp only [List.length_cons] at h ⊢
    rw [Memory.writeBytes, ih _ _ (by omega), Memory.read_write]
    by_cases h1 : k = a
    · subst h1
      simp [show ¬(k + 1 ≤ k) by omega, show k < 88 by omega]
    · by_cases h2 : a + 1 ≤ k ∧ k < a + 1 + bs.length
      · obtain ⟨j, rfl⟩ : ∃ j, k = a + 1 + j := ⟨k - (a + 1), by omega⟩
        simp only [h2, and_self, if_true, show a + 1 + j - (a + 1) = j by omega,
          show a + 1 + j - a = j + 1 by omega, List.getElem?_cons_succ]
        simp [show a ≤ a + 1 + j ∧ a + 1 + j < a + (bs.length + 1) by omega]
      · rw [if_neg h2, if_neg (by simp [h1]), if_neg (by omega)]

/-- Outside the bytes written, every address reads as before. -/
theorem Memory.read_writeBytes_outside (m : Memory) (a : Nat) (bs : List Byte) (k : Nat)
    (h : k < a ∨ a + bs.length ≤ k) : (m.writeBytes a bs).read k = m.read k := by
  induction bs generalizing m a with
  | nil => rfl
  | cons b bs ih =>
    simp only [List.length_cons] at h
    rw [Memory.writeBytes, ih _ _ (by omega), Memory.read_write]
    simp [show k ≠ a by omega]

/-! ## The canonical form -/

theorem Memory.wf_nil : Memory.wf [] := ⟨List.Pairwise.nil, fun _ h => nomatch h⟩

theorem Memory.put_keys (m : Memory) (a : Nat) (b : Byte) (c : Host.Cell) (h : c ∈ Memory.put a b m) :
    c = (a, b) ∨ c ∈ m := by
  induction m with
  | nil => simpa [Memory.put] using h
  | cons d t ih =>
    obtain ⟨k, v⟩ := d
    simp only [Memory.put] at h
    split at h
    · simpa using h
    · split at h
      · rcases List.mem_cons.1 h with h | h
        · exact .inl h
        · exact .inr (List.mem_cons_of_mem _ h)
      · rcases List.mem_cons.1 h with h | h
        · exact .inr (by simp [h])
        · exact (ih h).imp id (List.mem_cons_of_mem _)

theorem Memory.put_rising (m : Memory) (a : Nat) (b : Byte) (h : m.Pairwise (fun c d => c.1 < d.1)) :
    (Memory.put a b m).Pairwise (fun c d => c.1 < d.1) := by
  induction m with
  | nil => simp [Memory.put]
  | cons d t ih =>
    obtain ⟨k, v⟩ := d
    have ⟨hk, ht⟩ := List.pairwise_cons.1 h
    simp only [Memory.put]
    split
    · rename_i hak
      refine List.pairwise_cons.2 ⟨fun c hc => ?_, h⟩
      rcases List.mem_cons.1 hc with rfl | hc
      · exact hak
      · exact Nat.lt_trans hak (hk c hc)
    · split
      · rename_i heq
        exact List.pairwise_cons.2 ⟨fun c hc => heq ▸ hk c hc, ht⟩
      · refine List.pairwise_cons.2 ⟨fun c hc => ?_, ih ht⟩
        rcases Memory.put_keys t a b c hc with rfl | hc
        · show k < a; omega
        · exact hk c hc

/-- One write keeps the canonical form. -/
theorem Memory.wf_write (m : Memory) (a : Nat) (b : Byte) (h : m.wf) : (m.write a b).wf := by
  unfold Memory.write
  split
  · rename_i ha
    split
    · exact ⟨h.1.filter _, fun c hc => h.2 c (List.mem_filter.1 hc).1⟩
    · rename_i hb
      refine ⟨Memory.put_rising m a b h.1, fun c hc => ?_⟩
      rcases Memory.put_keys m a b c hc with rfl | hc
      · exact ⟨ha, hb⟩
      · exact h.2 c hc
  · exact h

/-- Bytes written in a row keep the canonical form. -/
theorem Memory.wf_writeBytes (m : Memory) (a : Nat) (bs : List Byte) (h : m.wf) : (m.writeBytes a bs).wf := by
  induction bs generalizing m a with
  | nil => exact h
  | cons b bs ih => exact ih _ _ (Memory.wf_write m a b h)

end Sys2Proof.Machine
end

