-- ==== Sys2Proof/Laws/State.lean ====
section
/-! SUPPORT. What each register update leaves in each register: one lemma per field per update, true by rfl. -/

namespace Sys2Proof.Machine

section setRes

variable (s : State) (v : Word32)

@[simp] theorem State.setRes_snap : (s.setRes v).snap = s.snap := rfl
@[simp] theorem State.setRes_cmdreg : (s.setRes v).cmdreg = s.cmdreg := rfl
@[simp] theorem State.setRes_rlen : (s.setRes v).rlen = s.rlen := rfl
@[simp] theorem State.setRes_dest : (s.setRes v).dest = s.dest := rfl
@[simp] theorem State.setRes_phase : (s.setRes v).phase = s.phase := rfl
@[simp] theorem State.setRes_cnt : (s.setRes v).cnt = s.cnt := rfl
@[simp] theorem State.setRes_result : (s.setRes v).result = s.result := rfl
@[simp] theorem State.setRes_hi : (s.setRes v).hi = s.hi := rfl
@[simp] theorem State.setRes_lo : (s.setRes v).lo = s.lo := rfl
@[simp] theorem State.setRes_bad : (s.setRes v).bad = s.bad := rfl
@[simp] theorem State.setRes_overrun : (s.setRes v).overrun = s.overrun := rfl
@[simp] theorem State.setRes_stg : (s.setRes v).stg = s.stg := rfl
@[simp] theorem State.setRes_res : (s.setRes v).res = v := rfl
@[simp] theorem State.setRes_inputs : (s.setRes v).inputs = s.inputs := rfl
@[simp] theorem State.setRes_freeCount : (s.setRes v).freeCount = s.freeCount := rfl

end setRes

section setOutcome

variable (s : State) (p : Phase) (r : Result)

@[simp] theorem State.setOutcome_snap : (s.setOutcome p r).snap = s.snap := rfl
@[simp] theorem State.setOutcome_cmdreg : (s.setOutcome p r).cmdreg = s.cmdreg := rfl
@[simp] theorem State.setOutcome_rlen : (s.setOutcome p r).rlen = s.rlen := rfl
@[simp] theorem State.setOutcome_dest : (s.setOutcome p r).dest = s.dest := rfl
@[simp] theorem State.setOutcome_phase : (s.setOutcome p r).phase = p := rfl
@[simp] theorem State.setOutcome_cnt : (s.setOutcome p r).cnt = s.cnt := rfl
@[simp] theorem State.setOutcome_result : (s.setOutcome p r).result = r := rfl
@[simp] theorem State.setOutcome_hi : (s.setOutcome p r).hi = s.hi := rfl
@[simp] theorem State.setOutcome_lo : (s.setOutcome p r).lo = s.lo := rfl
@[simp] theorem State.setOutcome_bad : (s.setOutcome p r).bad = s.bad := rfl
@[simp] theorem State.setOutcome_overrun : (s.setOutcome p r).overrun = s.overrun := rfl
@[simp] theorem State.setOutcome_stg : (s.setOutcome p r).stg = s.stg := rfl
@[simp] theorem State.setOutcome_res : (s.setOutcome p r).res = s.res := rfl
@[simp] theorem State.setOutcome_inputs : (s.setOutcome p r).inputs = s.inputs := rfl
@[simp] theorem State.setOutcome_freeCount : (s.setOutcome p r).freeCount = s.freeCount := rfl

end setOutcome

section setCmdreg

variable (s : State) (w : Word16)

@[simp] theorem State.setCmdreg_snap : (s.setCmdreg w).snap = s.snap := rfl
@[simp] theorem State.setCmdreg_cmdreg : (s.setCmdreg w).cmdreg = w := rfl
@[simp] theorem State.setCmdreg_rlen : (s.setCmdreg w).rlen = s.rlen := rfl
@[simp] theorem State.setCmdreg_dest : (s.setCmdreg w).dest = s.dest := rfl
@[simp] theorem State.setCmdreg_phase : (s.setCmdreg w).phase = s.phase := rfl
@[simp] theorem State.setCmdreg_cnt : (s.setCmdreg w).cnt = s.cnt := rfl
@[simp] theorem State.setCmdreg_result : (s.setCmdreg w).result = s.result := rfl
@[simp] theorem State.setCmdreg_hi : (s.setCmdreg w).hi = s.hi := rfl
@[simp] theorem State.setCmdreg_lo : (s.setCmdreg w).lo = s.lo := rfl
@[simp] theorem State.setCmdreg_bad : (s.setCmdreg w).bad = s.bad := rfl
@[simp] theorem State.setCmdreg_overrun : (s.setCmdreg w).overrun = s.overrun := rfl
@[simp] theorem State.setCmdreg_stg : (s.setCmdreg w).stg = s.stg := rfl
@[simp] theorem State.setCmdreg_res : (s.setCmdreg w).res = s.res := rfl
@[simp] theorem State.setCmdreg_inputs : (s.setCmdreg w).inputs = s.inputs := rfl
@[simp] theorem State.setCmdreg_freeCount : (s.setCmdreg w).freeCount = s.freeCount := rfl

end setCmdreg

section latch

variable (s : State) (n : BitVec 6) (d : Dest)

@[simp] theorem State.latch_snap : (s.latch n d).snap = s.snap := rfl
@[simp] theorem State.latch_cmdreg : (s.latch n d).cmdreg = s.cmdreg := rfl
@[simp] theorem State.latch_rlen : (s.latch n d).rlen = n := rfl
@[simp] theorem State.latch_dest : (s.latch n d).dest = d := rfl
@[simp] theorem State.latch_phase : (s.latch n d).phase = s.phase := rfl
@[simp] theorem State.latch_cnt : (s.latch n d).cnt = 0 := rfl
@[simp] theorem State.latch_result : (s.latch n d).result = s.result := rfl
@[simp] theorem State.latch_hi : (s.latch n d).hi = s.hi := rfl
@[simp] theorem State.latch_lo : (s.latch n d).lo = s.lo := rfl
@[simp] theorem State.latch_bad : (s.latch n d).bad = false := rfl
@[simp] theorem State.latch_overrun : (s.latch n d).overrun = false := rfl
@[simp] theorem State.latch_stg : (s.latch n d).stg = s.stg := rfl
@[simp] theorem State.latch_res : (s.latch n d).res = s.res := rfl
@[simp] theorem State.latch_inputs : (s.latch n d).inputs = s.inputs := rfl
@[simp] theorem State.latch_freeCount : (s.latch n d).freeCount = s.freeCount := rfl

end latch

section stageHi

variable (s : State) (b : Byte)

@[simp] theorem State.stageHi_snap : (s.stageHi b).snap = s.snap := rfl
@[simp] theorem State.stageHi_cmdreg : (s.stageHi b).cmdreg = s.cmdreg := rfl
@[simp] theorem State.stageHi_rlen : (s.stageHi b).rlen = s.rlen := rfl
@[simp] theorem State.stageHi_dest : (s.stageHi b).dest = s.dest := rfl
@[simp] theorem State.stageHi_phase : (s.stageHi b).phase = s.phase := rfl
@[simp] theorem State.stageHi_cnt : (s.stageHi b).cnt = s.cnt := rfl
@[simp] theorem State.stageHi_result : (s.stageHi b).result = s.result := rfl
@[simp] theorem State.stageHi_hi : (s.stageHi b).hi = b := rfl
@[simp] theorem State.stageHi_lo : (s.stageHi b).lo = s.lo := rfl
@[simp] theorem State.stageHi_bad : (s.stageHi b).bad = s.bad := rfl
@[simp] theorem State.stageHi_overrun : (s.stageHi b).overrun = s.overrun := rfl
@[simp] theorem State.stageHi_stg : (s.stageHi b).stg = s.stg.setIfInBounds (s.cnt.toNat / 3 * 2) b := rfl
@[simp] theorem State.stageHi_res : (s.stageHi b).res = s.res := rfl
@[simp] theorem State.stageHi_inputs : (s.stageHi b).inputs = s.inputs := rfl
@[simp] theorem State.stageHi_freeCount : (s.stageHi b).freeCount = s.freeCount := rfl

end stageHi

section stageLo

variable (s : State) (b : Byte)

@[simp] theorem State.stageLo_snap : (s.stageLo b).snap = s.snap := rfl
@[simp] theorem State.stageLo_cmdreg : (s.stageLo b).cmdreg = s.cmdreg := rfl
@[simp] theorem State.stageLo_rlen : (s.stageLo b).rlen = s.rlen := rfl
@[simp] theorem State.stageLo_dest : (s.stageLo b).dest = s.dest := rfl
@[simp] theorem State.stageLo_phase : (s.stageLo b).phase = s.phase := rfl
@[simp] theorem State.stageLo_cnt : (s.stageLo b).cnt = s.cnt := rfl
@[simp] theorem State.stageLo_result : (s.stageLo b).result = s.result := rfl
@[simp] theorem State.stageLo_hi : (s.stageLo b).hi = s.hi := rfl
@[simp] theorem State.stageLo_lo : (s.stageLo b).lo = b := rfl
@[simp] theorem State.stageLo_bad : (s.stageLo b).bad = s.bad := rfl
@[simp] theorem State.stageLo_overrun : (s.stageLo b).overrun = s.overrun := rfl
@[simp] theorem State.stageLo_stg : (s.stageLo b).stg = s.stg.setIfInBounds (s.cnt.toNat / 3 * 2 + 1) b := rfl
@[simp] theorem State.stageLo_res : (s.stageLo b).res = s.res := rfl
@[simp] theorem State.stageLo_inputs : (s.stageLo b).inputs = s.inputs := rfl
@[simp] theorem State.stageLo_freeCount : (s.stageLo b).freeCount = s.freeCount := rfl

end stageLo

section setBad

variable (s : State)

@[simp] theorem State.setBad_snap : s.setBad.snap = s.snap := rfl
@[simp] theorem State.setBad_cmdreg : s.setBad.cmdreg = s.cmdreg := rfl
@[simp] theorem State.setBad_rlen : s.setBad.rlen = s.rlen := rfl
@[simp] theorem State.setBad_dest : s.setBad.dest = s.dest := rfl
@[simp] theorem State.setBad_phase : s.setBad.phase = s.phase := rfl
@[simp] theorem State.setBad_cnt : s.setBad.cnt = s.cnt := rfl
@[simp] theorem State.setBad_result : s.setBad.result = s.result := rfl
@[simp] theorem State.setBad_hi : s.setBad.hi = s.hi := rfl
@[simp] theorem State.setBad_lo : s.setBad.lo = s.lo := rfl
@[simp] theorem State.setBad_bad : s.setBad.bad = true := rfl
@[simp] theorem State.setBad_overrun : s.setBad.overrun = s.overrun := rfl
@[simp] theorem State.setBad_stg : s.setBad.stg = s.stg := rfl
@[simp] theorem State.setBad_res : s.setBad.res = s.res := rfl
@[simp] theorem State.setBad_inputs : s.setBad.inputs = s.inputs := rfl
@[simp] theorem State.setBad_freeCount : s.setBad.freeCount = s.freeCount := rfl

end setBad

section setOverrun

variable (s : State)

@[simp] theorem State.setOverrun_snap : s.setOverrun.snap = s.snap := rfl
@[simp] theorem State.setOverrun_cmdreg : s.setOverrun.cmdreg = s.cmdreg := rfl
@[simp] theorem State.setOverrun_rlen : s.setOverrun.rlen = s.rlen := rfl
@[simp] theorem State.setOverrun_dest : s.setOverrun.dest = s.dest := rfl
@[simp] theorem State.setOverrun_phase : s.setOverrun.phase = s.phase := rfl
@[simp] theorem State.setOverrun_cnt : s.setOverrun.cnt = s.cnt := rfl
@[simp] theorem State.setOverrun_result : s.setOverrun.result = s.result := rfl
@[simp] theorem State.setOverrun_hi : s.setOverrun.hi = s.hi := rfl
@[simp] theorem State.setOverrun_lo : s.setOverrun.lo = s.lo := rfl
@[simp] theorem State.setOverrun_bad : s.setOverrun.bad = s.bad := rfl
@[simp] theorem State.setOverrun_overrun : s.setOverrun.overrun = true := rfl
@[simp] theorem State.setOverrun_stg : s.setOverrun.stg = s.stg := rfl
@[simp] theorem State.setOverrun_res : s.setOverrun.res = s.res := rfl
@[simp] theorem State.setOverrun_inputs : s.setOverrun.inputs = s.inputs := rfl
@[simp] theorem State.setOverrun_freeCount : s.setOverrun.freeCount = s.freeCount := rfl

end setOverrun

section countByte

variable (s : State)

@[simp] theorem State.countByte_snap : s.countByte.snap = s.snap := rfl
@[simp] theorem State.countByte_cmdreg : s.countByte.cmdreg = s.cmdreg := rfl
@[simp] theorem State.countByte_rlen : s.countByte.rlen = s.rlen := rfl
@[simp] theorem State.countByte_dest : s.countByte.dest = s.dest := rfl
@[simp] theorem State.countByte_phase : s.countByte.phase = s.phase := rfl
@[simp] theorem State.countByte_cnt : s.countByte.cnt = s.cnt + 1 := rfl
@[simp] theorem State.countByte_result : s.countByte.result = s.result := rfl
@[simp] theorem State.countByte_hi : s.countByte.hi = s.hi := rfl
@[simp] theorem State.countByte_lo : s.countByte.lo = s.lo := rfl
@[simp] theorem State.countByte_bad : s.countByte.bad = s.bad := rfl
@[simp] theorem State.countByte_overrun : s.countByte.overrun = s.overrun := rfl
@[simp] theorem State.countByte_stg : s.countByte.stg = s.stg := rfl
@[simp] theorem State.countByte_res : s.countByte.res = s.res := rfl
@[simp] theorem State.countByte_inputs : s.countByte.inputs = s.inputs := rfl
@[simp] theorem State.countByte_freeCount : s.countByte.freeCount = s.freeCount := rfl

end countByte

section snapWrite

variable (s : State) (a : Nat) (bs : List Byte)

@[simp] theorem State.snapWrite_snap : (s.snapWrite a bs).snap = s.snap.writeBytes a bs := rfl
@[simp] theorem State.snapWrite_cmdreg : (s.snapWrite a bs).cmdreg = s.cmdreg := rfl
@[simp] theorem State.snapWrite_rlen : (s.snapWrite a bs).rlen = s.rlen := rfl
@[simp] theorem State.snapWrite_dest : (s.snapWrite a bs).dest = s.dest := rfl
@[simp] theorem State.snapWrite_phase : (s.snapWrite a bs).phase = s.phase := rfl
@[simp] theorem State.snapWrite_cnt : (s.snapWrite a bs).cnt = s.cnt := rfl
@[simp] theorem State.snapWrite_result : (s.snapWrite a bs).result = s.result := rfl
@[simp] theorem State.snapWrite_hi : (s.snapWrite a bs).hi = s.hi := rfl
@[simp] theorem State.snapWrite_lo : (s.snapWrite a bs).lo = s.lo := rfl
@[simp] theorem State.snapWrite_bad : (s.snapWrite a bs).bad = s.bad := rfl
@[simp] theorem State.snapWrite_overrun : (s.snapWrite a bs).overrun = s.overrun := rfl
@[simp] theorem State.snapWrite_stg : (s.snapWrite a bs).stg = s.stg := rfl
@[simp] theorem State.snapWrite_res : (s.snapWrite a bs).res = s.res := rfl
@[simp] theorem State.snapWrite_inputs : (s.snapWrite a bs).inputs = s.inputs := rfl
@[simp] theorem State.snapWrite_freeCount : (s.snapWrite a bs).freeCount = s.freeCount := rfl

end snapWrite

section drawFree

variable (s : State)

@[simp] theorem State.drawFree_snap : s.drawFree.snap = s.snap := rfl
@[simp] theorem State.drawFree_cmdreg : s.drawFree.cmdreg = s.cmdreg := rfl
@[simp] theorem State.drawFree_rlen : s.drawFree.rlen = s.rlen := rfl
@[simp] theorem State.drawFree_dest : s.drawFree.dest = s.dest := rfl
@[simp] theorem State.drawFree_phase : s.drawFree.phase = s.phase := rfl
@[simp] theorem State.drawFree_cnt : s.drawFree.cnt = s.cnt := rfl
@[simp] theorem State.drawFree_result : s.drawFree.result = s.result := rfl
@[simp] theorem State.drawFree_hi : s.drawFree.hi = s.hi := rfl
@[simp] theorem State.drawFree_lo : s.drawFree.lo = s.lo := rfl
@[simp] theorem State.drawFree_bad : s.drawFree.bad = s.bad := rfl
@[simp] theorem State.drawFree_overrun : s.drawFree.overrun = s.overrun := rfl
@[simp] theorem State.drawFree_stg : s.drawFree.stg = s.stg := rfl
@[simp] theorem State.drawFree_res : s.drawFree.res = s.res := rfl
@[simp] theorem State.drawFree_inputs : s.drawFree.inputs = s.inputs := rfl
@[simp] theorem State.drawFree_freeCount : s.drawFree.freeCount = s.freeCount + 1 := rfl

end drawFree

section setInputs

variable (s : State) (is : List HostInput)

@[simp] theorem State.setInputs_snap : (s.setInputs is).snap = s.snap := rfl
@[simp] theorem State.setInputs_cmdreg : (s.setInputs is).cmdreg = s.cmdreg := rfl
@[simp] theorem State.setInputs_rlen : (s.setInputs is).rlen = s.rlen := rfl
@[simp] theorem State.setInputs_dest : (s.setInputs is).dest = s.dest := rfl
@[simp] theorem State.setInputs_phase : (s.setInputs is).phase = s.phase := rfl
@[simp] theorem State.setInputs_cnt : (s.setInputs is).cnt = s.cnt := rfl
@[simp] theorem State.setInputs_result : (s.setInputs is).result = s.result := rfl
@[simp] theorem State.setInputs_hi : (s.setInputs is).hi = s.hi := rfl
@[simp] theorem State.setInputs_lo : (s.setInputs is).lo = s.lo := rfl
@[simp] theorem State.setInputs_bad : (s.setInputs is).bad = s.bad := rfl
@[simp] theorem State.setInputs_overrun : (s.setInputs is).overrun = s.overrun := rfl
@[simp] theorem State.setInputs_stg : (s.setInputs is).stg = s.stg := rfl
@[simp] theorem State.setInputs_res : (s.setInputs is).res = s.res := rfl
@[simp] theorem State.setInputs_inputs : (s.setInputs is).inputs = is := rfl
@[simp] theorem State.setInputs_freeCount : (s.setInputs is).freeCount = s.freeCount := rfl

end setInputs

section taken

variable (s : State)

@[simp] theorem State.taken_snap : s.taken.snap = s.snap := rfl
@[simp] theorem State.taken_cmdreg : s.taken.cmdreg = s.cmdreg := rfl
@[simp] theorem State.taken_rlen : s.taken.rlen = s.rlen := rfl
@[simp] theorem State.taken_dest : s.taken.dest = s.dest := rfl
@[simp] theorem State.taken_phase : s.taken.phase = s.phase := rfl
@[simp] theorem State.taken_cnt : s.taken.cnt = s.cnt := rfl
@[simp] theorem State.taken_result : s.taken.result = s.result := rfl
@[simp] theorem State.taken_hi : s.taken.hi = s.hi := rfl
@[simp] theorem State.taken_lo : s.taken.lo = s.lo := rfl
@[simp] theorem State.taken_bad : s.taken.bad = s.bad := rfl
@[simp] theorem State.taken_overrun : s.taken.overrun = s.overrun := rfl
@[simp] theorem State.taken_stg : s.taken.stg = s.stg := rfl
@[simp] theorem State.taken_res : s.taken.res = s.res := rfl
@[simp] theorem State.taken_inputs : s.taken.inputs = s.inputs.tail := rfl
@[simp] theorem State.taken_freeCount : s.taken.freeCount = s.freeCount := rfl

end taken

end Sys2Proof.Machine
end

