-- ==== Sys2Proof/Laws/Ops.lean ====
section
/-! SUPPORT. What each shared operation does, said once: the rejection, the start of an exchange, one frame byte, the
verdict on a frame, the commit, reset, and the places of the snapshot. -/

namespace Sys2Proof.Machine

variable (s : State)

/-! ## Rejection and the start of an exchange -/

/-- `raise` writes PHASE, RESULT and RES and nothing else (spec/60_exceptions.md R176). -/
theorem raise_eq (k : Result) :
    raise k s = { s with phase := .rejected, result := k, res := (resultCode k).setWidth 32 } := rfl

/-- A violation is the rejection PROTOCOL_ERROR (spec/43_sequencer.md R127). -/
theorem violation_eq : violation s = { s with phase := .rejected, result := .protocolError, res := 6 } := rfl

/-- The writes of an accepted LOAD_CMD (spec/43_sequencer.md R120). -/
theorem startExchange_eq (w : Word16) (n : BitVec 6) (d : Dest) :
    startExchange w n d s =
      { s with cmdreg := w, rlen := n, dest := d, cnt := 0, bad := false, overrun := false, phase := .receiving,
               result := .none, res := 0 } := rfl

theorem loadKnown_cases (w : Word16) (n : BitVec 6) (d : Dest) :
    (s.phase = .receiving ∧ loadKnown w n d s = violation s) ∨
      (s.phase ≠ .receiving ∧ loadKnown w n d s = startExchange w n d s) := by
  by_cases h : s.phase = .receiving <;> simp [loadKnown, h]

theorem loadUnknown_cases (w : Word16) :
    (s.phase = .receiving ∧ loadUnknown w s = violation s) ∨
      (s.phase ≠ .receiving ∧ loadUnknown w s = raise .unknownCommand (s.setCmdreg w)) := by
  by_cases h : s.phase = .receiving <;> simp [loadUnknown, h]

/-! ## One frame byte -/

/-- Everything PUSH can do in RECEIVING (spec/43_sequencer.md R122). -/
theorem acceptByte_cases (b : Byte) :
    (s.cnt = s.rlen ∧ s.acceptByte b = s.setOverrun) ∨
    (s.cnt ≠ s.rlen ∧ s.cnt.toNat % 3 = 0 ∧ s.acceptByte b = (s.stageHi b).countByte) ∨
    (s.cnt ≠ s.rlen ∧ s.cnt.toNat % 3 = 1 ∧ s.acceptByte b = (s.stageLo b).countByte) ∨
    (s.cnt ≠ s.rlen ∧ s.cnt.toNat % 3 = 2 ∧ s.acceptByte b = (s.checkChunk b).countByte) := by
  by_cases h : s.cnt = s.rlen
  · exact .inl ⟨h, by simp [State.acceptByte, h]⟩
  · have h3 : s.cnt.toNat % 3 < 3 := Nat.mod_lt _ (by decide)
    rcases hk : s.cnt.toNat % 3 with _ | _ | _ | n
    · exact .inr (.inl ⟨h, rfl, by simp [State.acceptByte, h, hk]⟩)
    · exact .inr (.inr (.inl ⟨h, rfl, by simp [State.acceptByte, h, hk]⟩))
    · exact .inr (.inr (.inr ⟨h, rfl, by simp [State.acceptByte, h, hk]⟩))
    · omega

@[simp] theorem State.checkChunk_snap (b : Byte) : (s.checkChunk b).snap = s.snap := by
  unfold State.checkChunk; split <;> rfl

@[simp] theorem State.checkChunk_cmdreg (b : Byte) : (s.checkChunk b).cmdreg = s.cmdreg := by
  unfold State.checkChunk; split <;> rfl

@[simp] theorem State.checkChunk_rlen (b : Byte) : (s.checkChunk b).rlen = s.rlen := by
  unfold State.checkChunk; split <;> rfl

@[simp] theorem State.checkChunk_dest (b : Byte) : (s.checkChunk b).dest = s.dest := by
  unfold State.checkChunk; split <;> rfl

@[simp] theorem State.checkChunk_phase (b : Byte) : (s.checkChunk b).phase = s.phase := by
  unfold State.checkChunk; split <;> rfl

@[simp] theorem State.checkChunk_cnt (b : Byte) : (s.checkChunk b).cnt = s.cnt := by
  unfold State.checkChunk; split <;> rfl

@[simp] theorem State.checkChunk_result (b : Byte) : (s.checkChunk b).result = s.result := by
  unfold State.checkChunk; split <;> rfl

@[simp] theorem State.checkChunk_hi (b : Byte) : (s.checkChunk b).hi = s.hi := by
  unfold State.checkChunk; split <;> rfl

@[simp] theorem State.checkChunk_lo (b : Byte) : (s.checkChunk b).lo = s.lo := by
  unfold State.checkChunk; split <;> rfl

@[simp] theorem State.checkChunk_overrun (b : Byte) : (s.checkChunk b).overrun = s.overrun := by
  unfold State.checkChunk; split <;> rfl

@[simp] theorem State.checkChunk_stg (b : Byte) : (s.checkChunk b).stg = s.stg := by
  unfold State.checkChunk; split <;> rfl

@[simp] theorem State.checkChunk_res (b : Byte) : (s.checkChunk b).res = s.res := by
  unfold State.checkChunk; split <;> rfl

@[simp] theorem State.checkChunk_inputs (b : Byte) : (s.checkChunk b).inputs = s.inputs := by
  unfold State.checkChunk; split <;> rfl

@[simp] theorem State.checkChunk_freeCount (b : Byte) : (s.checkChunk b).freeCount = s.freeCount := by
  unfold State.checkChunk; split <;> rfl

/-- BAD is set by a chunk that fails and kept by one that does not (spec/10_state.md R23). -/
theorem State.checkChunk_bad (b : Byte) : (s.checkChunk b).bad = (s.bad || !verify s.hi s.lo b) := by
  unfold State.checkChunk
  cases h : verify s.hi s.lo b <;> simp

/-! What one frame byte leaves alone. -/

@[simp] theorem State.acceptByte_snap (b : Byte) : (s.acceptByte b).snap = s.snap := by
  rcases acceptByte_cases s b with ⟨_, h⟩ | ⟨_, _, h⟩ | ⟨_, _, h⟩ | ⟨_, _, h⟩ <;> simp [h]

@[simp] theorem State.acceptByte_cmdreg (b : Byte) : (s.acceptByte b).cmdreg = s.cmdreg := by
  rcases acceptByte_cases s b with ⟨_, h⟩ | ⟨_, _, h⟩ | ⟨_, _, h⟩ | ⟨_, _, h⟩ <;> simp [h]

@[simp] theorem State.acceptByte_rlen (b : Byte) : (s.acceptByte b).rlen = s.rlen := by
  rcases acceptByte_cases s b with ⟨_, h⟩ | ⟨_, _, h⟩ | ⟨_, _, h⟩ | ⟨_, _, h⟩ <;> simp [h]

@[simp] theorem State.acceptByte_dest (b : Byte) : (s.acceptByte b).dest = s.dest := by
  rcases acceptByte_cases s b with ⟨_, h⟩ | ⟨_, _, h⟩ | ⟨_, _, h⟩ | ⟨_, _, h⟩ <;> simp [h]

@[simp] theorem State.acceptByte_phase (b : Byte) : (s.acceptByte b).phase = s.phase := by
  rcases acceptByte_cases s b with ⟨_, h⟩ | ⟨_, _, h⟩ | ⟨_, _, h⟩ | ⟨_, _, h⟩ <;> simp [h]

@[simp] theorem State.acceptByte_result (b : Byte) : (s.acceptByte b).result = s.result := by
  rcases acceptByte_cases s b with ⟨_, h⟩ | ⟨_, _, h⟩ | ⟨_, _, h⟩ | ⟨_, _, h⟩ <;> simp [h]

@[simp] theorem State.acceptByte_res (b : Byte) : (s.acceptByte b).res = s.res := by
  rcases acceptByte_cases s b with ⟨_, h⟩ | ⟨_, _, h⟩ | ⟨_, _, h⟩ | ⟨_, _, h⟩ <;> simp [h]

@[simp] theorem State.acceptByte_inputs (b : Byte) : (s.acceptByte b).inputs = s.inputs := by
  rcases acceptByte_cases s b with ⟨_, h⟩ | ⟨_, _, h⟩ | ⟨_, _, h⟩ | ⟨_, _, h⟩ <;> simp [h]

@[simp] theorem State.acceptByte_freeCount (b : Byte) : (s.acceptByte b).freeCount = s.freeCount := by
  rcases acceptByte_cases s b with ⟨_, h⟩ | ⟨_, _, h⟩ | ⟨_, _, h⟩ | ⟨_, _, h⟩ <;> simp [h]

/-! ## The verdict on a frame -/

/-- The three verdicts, in their order (spec/43_sequencer.md R123, spec/60_exceptions.md R179). -/
theorem frameResult_cases :
    (s.frameResult = .lengthError ∧ (s.overrun = true ∨ s.cnt ≠ s.rlen)) ∨
    (s.frameResult = .checksumError ∧ s.overrun = false ∧ s.cnt = s.rlen ∧ s.bad = true) ∨
    (s.frameResult = .ok ∧ s.overrun = false ∧ s.cnt = s.rlen ∧ s.bad = false) := by
  unfold State.frameResult
  by_cases h1 : s.cnt = s.rlen <;> cases h2 : s.overrun <;> cases h3 : s.bad <;> simp [h1]

/-! ## The commit -/

/-- A snapshot write changes the snapshot only. -/
theorem commit_eq : commit s = { s with snap := (commit s).snap } := by
  unfold commit
  split <;> rfl

@[simp] theorem commit_cmdreg : (commit s).cmdreg = s.cmdreg := by rw [commit_eq]

@[simp] theorem commit_rlen : (commit s).rlen = s.rlen := by rw [commit_eq]

@[simp] theorem commit_dest : (commit s).dest = s.dest := by rw [commit_eq]

@[simp] theorem commit_phase : (commit s).phase = s.phase := by rw [commit_eq]

@[simp] theorem commit_cnt : (commit s).cnt = s.cnt := by rw [commit_eq]

@[simp] theorem commit_result : (commit s).result = s.result := by rw [commit_eq]

@[simp] theorem commit_hi : (commit s).hi = s.hi := by rw [commit_eq]

@[simp] theorem commit_lo : (commit s).lo = s.lo := by rw [commit_eq]

@[simp] theorem commit_bad : (commit s).bad = s.bad := by rw [commit_eq]

@[simp] theorem commit_overrun : (commit s).overrun = s.overrun := by rw [commit_eq]

@[simp] theorem commit_stg : (commit s).stg = s.stg := by rw [commit_eq]

@[simp] theorem commit_res : (commit s).res = s.res := by rw [commit_eq]

@[simp] theorem commit_inputs : (commit s).inputs = s.inputs := by rw [commit_eq]

@[simp] theorem commit_freeCount : (commit s).freeCount = s.freeCount := by rw [commit_eq]

/-- The payload is as long as the staging buffer and the response length allow. -/
theorem State.payload_length : s.payload.length = min (s.rlen.toNat * 2 / 3) 32 := by
  simp [State.payload]

/-- A commit leaves every byte outside the destination field alone (spec/43_sequencer.md R124). -/
theorem commit_read_outside (a : Nat)
    (h : a < destBase s.dest ∨ destBase s.dest + s.payload.length ≤ a ∨ s.dest = .none) :
    (commit s).snap.read a = s.snap.read a := by
  unfold commit
  split
  · rfl
  · rename_i hd
    exact Memory.read_writeBytes_outside _ _ _ _ (by simpa [hd] using h)

/-- Every field ends inside the snapshot (spec/20_memory.md R41). -/
theorem destBase_add_destSize_le (d : Dest) : destBase d + destSize d ≤ 88 := by cases d <;> decide

/-- A commit whose payload has the field's size: byte j of the field is payload byte j, the rest stays
(spec/43_sequencer.md R124). -/
theorem commit_read (a : Nat) (h : s.payload.length = destSize s.dest) :
    (commit s).snap.read a =
      if destBase s.dest ≤ a ∧ a < destBase s.dest + destSize s.dest then s.payload[a - destBase s.dest]?
      else s.snap.read a := by
  have hb := destBase_add_destSize_le s.dest
  unfold commit
  split
  · rename_i hd
    rw [if_neg (by simp only [hd, destBase, destSize]; omega)]
  · simp only [State.snapWrite_snap]
    rw [Memory.read_writeBytes _ _ _ _ (by omega), h]

/-- A commit keeps the canonical form of the snapshot. -/
theorem commit_wf (h : s.snap.wf) : (commit s).snap.wf := by
  unfold commit
  split
  · exact h
  · exact Memory.wf_writeBytes _ _ _ h

/-! ## Reset -/

/-- What a snapshot address reads as when nothing is listed (spec/70_reset_and_hazards.md R191). -/
theorem read_reset {a : Nat} (h : a < 88) : Memory.read [] a = some (resetByte a) := by
  simp [Memory.read, h, Memory.cell]

/-! ## The places of the snapshot -/

/-- An address read as a byte: the byte of its cell. -/
theorem cell_of_read {m : Memory} {b : Byte} (a : SnapAddr) (h : m.read a.val = some b) : m.cell a = b := by
  rw [Memory.read_of_lt m a.isLt] at h
  exact Option.some.inj h

/-- A word is its high byte in front of its low byte (spec/44_fields.md R160). -/
theorem measWord_eq (m : Memory) (w : Fin 9) :
    measWord m w = m.cell (measHiAddr w) ++ m.cell (measLoAddr w) := by
  unfold measWord
  apply BitVec.eq_of_getLsbD_eq
  intro i hi
  simp only [BitVec.getLsbD_or, BitVec.getLsbD_shiftLeft, BitVec.getLsbD_setWidth, BitVec.getLsbD_append]
  by_cases h : i < 8
  · simp [h, hi]
  · simp [h, hi, show i - 8 < 16 by omega, BitVec.getLsbD_of_ge _ _ (Nat.not_lt.1 h)]

/-- The mask of a bit picks the bit (spec/44_fields.md R141). -/
theorem and_mask_ne_zero (b : Byte) (i : BitVec 3) : ((b &&& (1#8 <<< i.toNat)) != 0) = b.getLsbD i.toNat := by
  revert i b
  decide

/-- A flag is the bit at its index (spec/44_fields.md R141). -/
theorem statusFlag_eq (m : Memory) (y : BitVec 2) (i : BitVec 3) :
    statusFlag m y i = (m.cell (statusAddr y)).getLsbD i.toNat := and_mask_ne_zero _ _

end Sys2Proof.Machine
end

