-- ==== Sys2Proof/Laws/Exec.lean ====
section
/-! SUPPORT. What an instruction can do, by kind, and what a step can do: the lemmas to cite instead of unfolding
`exec`. -/

namespace Sys2Proof.Machine

variable (s : State)

/-- A query answers a next state that differs in RES and, for a free value drawn, in the model's own counter
(spec/20_memory.md R47). -/
theorem exec_query (i : Instr) (h : i.isQuery = true) :
    ∃ v n, exec i s = .next { s with res := v, freeCount := n } := by
  cases i <;> first
    | exact ⟨_, _, rfl⟩
    | (simp [Instr.isQuery] at h; done)
    | (simp only [exec, execRdByte]; split <;> exact ⟨_, _, rfl⟩)

/-- An instruction that loads a command does what LOAD_CMD does with its word (spec/30_encoding.md R66; log 2). -/
theorem exec_load (i : Instr) (w : Word16) (h : i.commandWord = some w) : exec i s = execLoadCmd w s := by
  cases i <;> simp [Instr.commandWord] at h <;> subst h <;> rfl

/-- LOAD_CMD, case by case (spec/43_sequencer.md R120, R121, R127). -/
theorem execLoadCmd_cases (w : Word16) :
    (s.phase = .receiving ∧ execLoadCmd w s = .next (violation s)) ∨
    (s.phase ≠ .receiving ∧ (∃ e, lookup w = some e ∧ execLoadCmd w s = .next (startExchange w e.rlen e.dest s))) ∨
    (s.phase ≠ .receiving ∧ lookup w = none ∧ execLoadCmd w s = .next (raise .unknownCommand (s.setCmdreg w))) := by
  unfold execLoadCmd
  by_cases h : s.phase = .receiving
  · cases hw : lookup w <;> simp [h, loadKnown, loadUnknown]
  · cases hw : lookup w <;> simp [h, loadKnown, loadUnknown]

/-- PUSH (spec/43_sequencer.md R122, R127). -/
theorem execPush_cases (b : Byte) :
    (s.phase = .receiving ∧ execPush b s = .next (s.acceptByte b).respond) ∨
    (s.phase ≠ .receiving ∧ execPush b s = .next (violation s)) := by
  by_cases h : s.phase = .receiving <;> simp [execPush, h]

/-- END (spec/43_sequencer.md R123, R127). -/
theorem execEnd_cases :
    (s.phase = .receiving ∧ s.frameResult = .ok ∧
      execEnd s = .next ((commit s).setOutcome .validated .ok).respond) ∨
    (s.phase = .receiving ∧ s.frameResult = .lengthError ∧ execEnd s = .next (raise .lengthError s)) ∨
    (s.phase = .receiving ∧ s.frameResult = .checksumError ∧ execEnd s = .next (raise .checksumError s)) ∨
    (s.phase ≠ .receiving ∧ execEnd s = .next (violation s)) := by
  unfold execEnd
  by_cases h : s.phase = .receiving
  · rcases frameResult_cases s with ⟨hr, _⟩ | ⟨hr, _⟩ | ⟨hr, _⟩ <;> simp [h, hr]
  · simp [h]

/-- ABORT (spec/43_sequencer.md R125, R127). -/
theorem execAbort_cases :
    (s.phase = .receiving ∧ execAbort s = .next (raise .transportError s)) ∨
    (s.phase ≠ .receiving ∧ execAbort s = .next (violation s)) := by
  by_cases h : s.phase = .receiving <;> simp [execAbort, h]

/-- Every instruction is a query, loads a command, or is PUSH, END or ABORT. -/
theorem Instr_kinds (i : Instr) :
    i.isQuery = true ∨ (∃ w, i.commandWord = some w) ∨ (∃ b, i = .push b) ∨ i = .endFrame ∨ i = .abort := by
  cases i <;> simp [Instr.isQuery, Instr.commandWord]

/-- A known command is a row of the catalogue (spec/42_catalog.md R111). -/
theorem lookup_mem {w : Word16} {e : CatalogEntry} (h : lookup w = some e) : e ∈ catalog ∧ e.word = w :=
  ⟨List.mem_of_find?_eq_some h, by simpa using List.find?_some h⟩

/-- Everything a step can do (spec/20_memory.md R49). -/
theorem step_cases :
    (s.inputs = [] ∧ step s = .next s) ∨
    (∃ rest, s.inputs = .reset :: rest ∧ step s = .next (resetEvent s.taken)) ∨
    (∃ p i rest, s.inputs = .word p :: rest ∧ decode p = some i ∧ step s = exec i s.taken) ∨
    (∃ p rest, s.inputs = .word p :: rest ∧ decode p = none ∧ step s = .refused .reservedOpsel) := by
  unfold step
  rcases h : s.inputs with _ | ⟨i, rest⟩
  · simp
  · cases i with
    | reset => simp
    | word p => cases hd : decode p <;> simp [hd]

end Sys2Proof.Machine
end

