-- ==== Sys2Proof/Laws/PerInstr.lean ====
section
/-! SUPPORT. The per-instruction family EncodeCanonical: the word of every instruction is the one an assembler writes,
with a defined OPSEL and zeros in every ignored ARG bit, or a command word of the catalogue (spec/30_encoding.md R67,
R71, R74). -/

namespace Sys2Proof

/-- Zeros in front of a field leave its value. -/
theorem zero_append_lt (n : Nat) {m : Nat} (x : BitVec m) : (0#n ++ x).toNat < 2 ^ m := by
  rw [BitVec.toNat_append]
  simpa using x.isLt

end Sys2Proof

namespace Sys2Proof.Laws.EncodeCanonical

def Statement (i : Instr) : Prop := (encode i).canonical = true

theorem loadCmd (w : Word16) : Statement (.loadCmd w) :=
  op32_canonical _ _ rfl (zero_append_lt 8 w)

theorem push (b : Byte) : Statement (.push b) :=
  op32_canonical _ _ rfl (zero_append_lt 16 b)

theorem endFrame : Statement .endFrame :=
  rfl

theorem abort : Statement .abort :=
  rfl

theorem rdStatus : Statement .rdStatus :=
  rfl

theorem crcCompute (w0 w1 : Byte) : Statement (.crcCompute w0 w1) :=
  op32_canonical _ _ rfl (zero_append_lt 8 (w0 ++ w1))

theorem crcVerify (w0 w1 rx : Byte) : Statement (.crcVerify w0 w1 rx) :=
  op32_canonical _ _ rfl (BitVec.isLt _)

theorem rdByte (addr : BitVec 7) : Statement (.rdByte addr) :=
  op32_canonical _ _ rfl (zero_append_lt 17 addr)

theorem rdFlag (y : BitVec 2) (i : BitVec 3) : Statement (.rdFlag y i) :=
  op32_canonical _ _ rfl (zero_append_lt 19 (y ++ i))

theorem rdDataReady : Statement .rdDataReady :=
  rfl

theorem flagFanSpeedWarning : Statement .flagFanSpeedWarning :=
  rfl

theorem flagPmError : Statement .flagPmError :=
  rfl

theorem flagCo2Error : Statement .flagCo2Error :=
  rfl

theorem flagGasError : Statement .flagGasError :=
  rfl

theorem flagRhtError : Statement .flagRhtError :=
  rfl

theorem flagFanError : Statement .flagFanError :=
  rfl

theorem measPm1_0 : Statement .measPm1_0 :=
  rfl

theorem measPm2_5 : Statement .measPm2_5 :=
  rfl

theorem measPm4_0 : Statement .measPm4_0 :=
  rfl

theorem measPm10_0 : Statement .measPm10_0 :=
  rfl

theorem measHumidity : Statement .measHumidity :=
  rfl

theorem measTemperature : Statement .measTemperature :=
  rfl

theorem measVoc : Statement .measVoc :=
  rfl

theorem measNox : Statement .measNox :=
  rfl

theorem measCo2 : Statement .measCo2 :=
  rfl

theorem getProductName : Statement .getProductName :=
  rfl

theorem getSerialNumber : Statement .getSerialNumber :=
  rfl

theorem getDataReady : Statement .getDataReady :=
  rfl

theorem readDeviceStatus : Statement .readDeviceStatus :=
  rfl

theorem readAndClearDeviceStatus : Statement .readAndClearDeviceStatus :=
  rfl

theorem readMeasuredValues : Statement .readMeasuredValues :=
  rfl

theorem startContinuousMeasurement : Statement .startContinuousMeasurement :=
  rfl

theorem stopMeasurement : Statement .stopMeasurement :=
  rfl

theorem deviceReset : Statement .deviceReset :=
  rfl

theorem startFanCleaning : Statement .startFanCleaning :=
  rfl

theorem activateShtHeater : Statement .activateShtHeater :=
  rfl

end Sys2Proof.Laws.EncodeCanonical
end

