-- ==== Sys2Proof/Tests/Slice0.lean ====
section
/-! SUPPORT. The model's own tests: expected values are those of spec/30_encoding.md and spec/95_test_vectors.md (the
vector is named in each docstring); and for every statement with hypotheses a theorem `witness_<statement>` with concrete
values that meet them. -/

set_option Elab.async false

namespace Sys2Proof.Tests

open Sys2Proof Sys2Proof.Machine

/-! ## Small states -/

/-- The state after an instruction. -/
def after (i : Instr) (s : State) : Option State :=
  match exec i s with
  | .next t => some t
  | .fault _ => none
  | .refused _ => none

/-- In RECEIVING for READ_DEVICE_STATUS, `n` bytes of the frame `00 20 07 00 00 81` counted, its payload staged. -/
def busy (n : BitVec 6) (hi lo : Byte) : State :=
  { State.reset with cmdreg := 0xD206, rlen := 6, dest := .deviceStatus, phase := .receiving, cnt := n, hi := hi,
                     lo := lo, stg := (Vector.replicate 32 0).set 1 0x20 }

/-- The whole frame counted, no chunk bad. -/
def good : State := busy 6 0x00 0x00

/-- A rejected state. -/
def rejected : State := { State.reset with phase := .rejected, result := .unknownCommand }

/-- Reset, with other bytes in `device_status`. -/
def withStatus (bs : List Byte) : State := State.reset.snapWrite 0x42 bs

/-- Reset, with other bytes in `data_ready`. -/
def withReady (bs : List Byte) : State := State.reset.snapWrite 0x40 bs

/-- Reset, with the bytes of V5.8 in `measured_values`. -/
def withWords : State :=
  State.reset.snapWrite 0x46
    [0xFF, 0xFF, 0x00, 0x00, 0x80, 0x00, 0x7F, 0xFF, 0x80, 0x00, 0x7F, 0xFF, 0xFF, 0xFF, 0x00, 0x00, 0x80, 0x00]

/-- RD_STATUS after an instruction. -/
def statusAfter (i : Instr) (s : State) : Option Word32 := (after i s).bind (resOf .rdStatus)

/-- The six named flags. -/
def flags (s : State) : List (Option Word32) :=
  [resOf .flagFanSpeedWarning s, resOf .flagPmError s, resOf .flagCo2Error s, resOf .flagGasError s,
    resOf .flagRhtError s, resOf .flagFanError s]

/-! ## WellFormed: an ill-formed word for each check -/

/-- A reserved OPSEL (R71), at both ends of the gaps and beyond the map. -/
theorem test_reserved_opsel_is_ill_formed :
    (PortWord.op32 0x00000000).canonical = false ∧ (PortWord.op32 0x05000000).canonical = false ∧
    (PortWord.op32 0x36000000).canonical = false ∧ (PortWord.op32 0x49000000).canonical = false ∧
    (PortWord.op32 0xFF000000).canonical = false := by decide

/-- A one in the lowest ARG bit that R63 does not name, operation by operation (R74). -/
theorem test_ignored_arg_bits_are_ill_formed :
    (PortWord.op32 0x01010000).canonical = false ∧ (PortWord.op32 0x02000100).canonical = false ∧
    (PortWord.op32 0x03000001).canonical = false ∧ (PortWord.op32 0x10010000).canonical = false ∧
    (PortWord.op32 0x20000080).canonical = false ∧ (PortWord.op32 0x21000020).canonical = false ∧
    (PortWord.op32 0x47123456).canonical = false := by decide

/-- A bare word outside the catalogue (R67, R72). -/
theorem test_unknown_command_word_is_ill_formed :
    (PortWord.cmd16 0x0000).canonical = false ∧ (PortWord.cmd16 0x14D0).canonical = false ∧
    (PortWord.cmd16 0xD207).canonical = false := by decide

/-- Every operand value is allowed, the unspecified RD_BYTE addresses too (R73). -/
theorem test_every_operand_is_well_formed :
    (Instr.rdByte 0x7F).wf = true ∧ (Instr.rdFlag 3 7).wf = true ∧ (Instr.loadCmd 0xFFFF).wf = true ∧
    (PortWord.op32 0x2000007F).canonical = true ∧ (PortWord.op32 0x11FFFFFF).canonical = true := by decide

/-! ## Decode: the words of spec/30_encoding.md, written out -/

/-- R62, R63, sequencing; OPSEL, the ignored bits and the operand bit by bit. -/
theorem test_decode_sequencing :
    decode (.op32 0b00000001_00000000_1101001000000110) = some (.loadCmd 0xD206) ∧
    decode (.op32 0b00000010_0000000000000000_10100010) = some (.push 0xA2) ∧
    decode (.op32 0b00000011_000000000000000000000000) = some .endFrame ∧
    decode (.op32 0b00000100_000000000000000000000000) = some .abort ∧
    decode (.op32 0b00001000_000000000000000000000000) = some .rdStatus := by decide

/-- R62, R63, checksum: W0, W1 and RX in their bytes. -/
theorem test_decode_checksum :
    decode (.op32 0b00010000_00000000_10111110_11101111) = some (.crcCompute 0xBE 0xEF) ∧
    decode (.op32 0b00010001_10111110_11101111_10010010) = some (.crcVerify 0xBE 0xEF 0x92) := by decide

/-- R62, R63, field reads: ADDR in 6:0, BYTEIX in 4:3, BITIX in 2:0. -/
theorem test_decode_field_reads :
    decode (.op32 0b00100000_00000000000000000_1000010) = some (.rdByte 0x42) ∧
    decode (.op32 0b00100001_0000000000000000000_01_101) = some (.rdFlag 1 5) ∧
    decode (.op32 0b00100001_0000000000000000000_11_100) = some (.rdFlag 3 4) ∧
    decode (.op32 0b00100010_000000000000000000000000) = some .rdDataReady := by decide

/-- R62, named flags. -/
theorem test_decode_flags :
    decode (.op32 0b00110000_000000000000000000000000) = some .flagFanSpeedWarning ∧
    decode (.op32 0x31000000) = some .flagPmError ∧ decode (.op32 0x32000000) = some .flagCo2Error ∧
    decode (.op32 0x33000000) = some .flagGasError ∧ decode (.op32 0x34000000) = some .flagRhtError ∧
    decode (.op32 0x35000000) = some .flagFanError := by decide

/-- R62, measurement words. -/
theorem test_decode_measurements :
    decode (.op32 0b01000000_000000000000000000000000) = some .measPm1_0 ∧
    decode (.op32 0x41000000) = some .measPm2_5 ∧ decode (.op32 0x42000000) = some .measPm4_0 ∧
    decode (.op32 0x43000000) = some .measPm10_0 ∧ decode (.op32 0x44000000) = some .measHumidity ∧
    decode (.op32 0x45000000) = some .measTemperature ∧ decode (.op32 0x46000000) = some .measVoc ∧
    decode (.op32 0x47000000) = some .measNox ∧ decode (.op32 0x48000000) = some .measCo2 := by decide

/-- R67, command words, in the row order of the table; an unlisted word is the LOAD_CMD of it (log 2). -/
theorem test_decode_command_words :
    decode (.cmd16 0b11010000_00010100) = some .getProductName ∧
    decode (.cmd16 0xD033) = some .getSerialNumber ∧ decode (.cmd16 0x0202) = some .getDataReady ∧
    decode (.cmd16 0xD206) = some .readDeviceStatus ∧ decode (.cmd16 0xD210) = some .readAndClearDeviceStatus ∧
    decode (.cmd16 0x0300) = some .readMeasuredValues ∧
    decode (.cmd16 0x0021) = some .startContinuousMeasurement ∧ decode (.cmd16 0x0104) = some .stopMeasurement ∧
    decode (.cmd16 0xD304) = some .deviceReset ∧ decode (.cmd16 0x5607) = some .startFanCleaning ∧
    decode (.cmd16 0x6765) = some .activateShtHeater ∧ decode (.cmd16 0x0316) = some (.loadCmd 0x0316) := by decide

/-- R64: ignored ARG bits select the same operation (V2.4, V4.2, V5.1, V5.8). -/
theorem test_decode_ignores_unnamed_bits :
    decode (.op32 0x10ABBEEF) = some (.crcCompute 0xBE 0xEF) ∧
    decode (.op32 0x01AB0202) = some (.loadCmd 0x0202) ∧
    decode (.op32 0x20FFFFC2) = some (.rdByte 0x42) ∧ decode (.op32 0x47123456) = some .measNox := by decide

/-- R71: no fall-through at the ends of the reserved ranges. -/
theorem test_decode_rejects_reserved :
    decode (.op32 0x00000000) = none ∧ decode (.op32 0x05000000) = none ∧ decode (.op32 0x07000000) = none ∧
    decode (.op32 0x09000000) = none ∧ decode (.op32 0x0F000000) = none ∧ decode (.op32 0x12000000) = none ∧
    decode (.op32 0x1F000000) = none ∧ decode (.op32 0x23000000) = none ∧ decode (.op32 0x2F000000) = none ∧
    decode (.op32 0x36000000) = none ∧ decode (.op32 0x3F000000) = none ∧ decode (.op32 0x49000000) = none ∧
    decode (.op32 0xFF000000) = none := by decide

/-- The host's numbering: a row of 16 bits is a bare command word, a row of 32 bits an operation word (log 15). -/
theorem test_decode_table_word :
    decodeTableWord 16 0xD014 = some .getProductName ∧ decodeTableWord 32 0x0100D014 = some (.loadCmd 0xD014) ∧
    decodeTableWord 32 0x48000000 = some .measCo2 := by decide

/-! ## Checksum -/

/-- V2.1. -/
theorem test_crc8_vectors :
    crc8 0x00 0x00 = 0x81 ∧ crc8 0xFF 0xFF = 0xAC ∧ crc8 0xBE 0xEF = 0x92 ∧ crc8 0x80 0x00 = 0xA2 ∧
    crc8 0x00 0x80 = 0xFB ∧ crc8 0x31 0x00 = 0xC7 ∧ crc8 0x00 0x31 = 0x75 ∧ crc8 0xFF 0x00 = 0x00 ∧
    crc8 0x00 0x50 = 0xFF := by decide +kernel

/-- V2.2, V2.3. -/
theorem test_crc_byte_vectors :
    crcByte 0xFF 0xBE = 0x0C ∧ crcByte 0x00 0x0F = 0x2E ∧ crcByte 0x00 0x07 = 0x97 ∧
    [0x31#8, 0x32, 0x33, 0x34, 0x35, 0x36, 0x37, 0x38, 0x39].foldl crcByte 0xFF = 0xF7 := by decide +kernel

/-- V2.4. -/
theorem test_crc_compute : resOf (.crcCompute 0xBE 0xEF) rejected = some 0x00000092 := by decide +kernel

/-- V2.5. -/
theorem test_crc_verify :
    resOf (.crcVerify 0xBE 0xEF 0x92) good = some 1 ∧ resOf (.crcVerify 0xBE 0xEF 0x93) good = some 0 ∧
    resOf (.crcVerify 0x00 0x00 0x00) good = some 0 ∧ resOf (.crcVerify 0xFF 0xFF 0xFF) good = some 0 := by
  decide +kernel

/-! ## Frame decoder -/

/-- V3.1, V3.3, V3.5, V3.6, V3.7, V3.9. -/
theorem test_decode_frame_checksums :
    decodeFrame [] = .ok [] ∧
    decodeFrame [0x00, 0x20, 0x07, 0x00, 0x00, 0x81] = .ok [0x00, 0x20, 0x00, 0x00] ∧
    decodeFrame [0x00, 0x00, 0x81, 0x00, 0x20, 0x07] = .ok [0x00, 0x00, 0x00, 0x20] ∧
    decodeFrame [0x00, 0x20, 0x08, 0x00, 0x00, 0x81] = .checksumError ∧
    decodeFrame [0x00, 0x20, 0x07, 0x00, 0x00, 0x80] = .checksumError ∧
    decodeFrame [0x00, 0x21, 0x36, 0x00, 0x00, 0x81] = .ok [0x00, 0x21, 0x00, 0x00] := by decide +kernel

/-- V3.10, V3.11, V3.12. -/
theorem test_decode_frame_lengths :
    decodeFrame [0x00, 0x20] = .lengthError ∧ decodeFrame [0x00, 0x20, 0x07, 0x00] = .lengthError ∧
    decodeFrame [0x00, 0x20, 0x08, 0x00, 0x00] = .lengthError := by decide +kernel

/-- Section 3, `encode_frame`. -/
theorem test_encode_frame :
    encodeFrame [0x00, 0x20, 0x02, 0xD0] = [0x00, 0x20, 0x07, 0x02, 0xD0, 0x5C] ∧
    encodeFrame [0x53, 0x45, 0x4E, 0x36, 0x36, 0x00] = [0x53, 0x45, 0x83, 0x4E, 0x36, 0x06, 0x36, 0x00, 0x69] := by
  decide +kernel

/-! ## Sequencing -/

/-- V4.1: RD_STATUS after each LOAD_CMD from reset. -/
theorem test_load_cmd_status :
    [0xD014, 0xD033, 0x0202, 0xD206, 0xD210, 0x0300, 0x0021, 0x0104, 0xD304, 0x5607, 0x6765].map
        (fun w => statusAfter (.loadCmd w) State.reset) =
      [some 0x01300001, some 0x02300001, some 0x03030001, some 0x04060001, some 0x04060001, some 0x051B0001,
        some 0x00000001, some 0x00000001, some 0x00000001, some 0x00000001, some 0x00000001] := by decide +kernel

/-- V4.2. -/
theorem test_load_cmd_unknown :
    resOf (.loadCmd 0x14D0) State.reset = some 5 ∧ statusAfter (.loadCmd 0x14D0) State.reset = some 0x00000053 ∧
    resOf (.loadCmd 0xD206) good = some 6 := by decide +kernel

/-- V4.1 with the bare words (log 2). -/
theorem test_command_word_status :
    [Instr.getProductName, .getSerialNumber, .getDataReady, .readDeviceStatus, .readAndClearDeviceStatus,
        .readMeasuredValues, .startContinuousMeasurement, .stopMeasurement, .deviceReset, .startFanCleaning,
        .activateShtHeater].map (fun i => statusAfter i State.reset) =
      [some 0x01300001, some 0x02300001, some 0x03030001, some 0x04060001, some 0x04060001, some 0x051B0001,
        some 0x00000001, some 0x00000001, some 0x00000001, some 0x00000001, some 0x00000001] := by decide +kernel

/-- V4.3 b: a bad chunk sets BAD. P1 step 2: HI and STG take the first byte. -/
theorem test_push :
    (after (.push 0x08) (busy 2 0x00 0x20)).map State.bad = some true ∧
    (after (.push 0x07) (busy 2 0x00 0x20)).map State.bad = some false ∧
    (after (.push 0x80) (busy 3 0x00 0x20)).map (fun t => (t.hi, t.stg[2], t.cnt, t.res)) =
      some (0x80, 0x80, 4, 0) := by decide +kernel

/-- V4.3 d, k. -/
theorem test_push_overrun_and_violation :
    (after (.push 0x00) good).map (fun t => (t.overrun, t.cnt, t.res)) = some (true, 6, 0) ∧
    resOf (.push 0x00) State.reset = some 6 ∧ statusAfter (.push 0x00) State.reset = some 0x00000063 := by
  decide +kernel

/-- V4.3 a. -/
theorem test_end_commits :
    resOf .endFrame good = some 1 ∧ statusAfter .endFrame good = some 0x04060612 ∧
    (after .endFrame good).map (fun t => [0x41, 0x42, 0x43, 0x44, 0x45, 0x46].map t.snap.read) =
      some [some 0x00, some 0x00, some 0x20, some 0x00, some 0x00, some 0xFF] := by decide +kernel

/-- V4.3 b, c, e, l: the causes, length before checksum. -/
theorem test_end_rejects :
    statusAfter .endFrame { good with bad := true } = some 0x04060623 ∧
    statusAfter .endFrame (busy 3 0x00 0x20) = some 0x04060333 ∧
    statusAfter .endFrame { busy 5 0x00 0x00 with bad := true } = some 0x04060533 ∧
    statusAfter .endFrame State.reset = some 0x00000063 := by decide +kernel

/-- V4.3 f, l. -/
theorem test_abort :
    statusAfter .abort good = some 0x04060643 ∧ statusAfter .abort State.reset = some 0x00000063 := by
  decide +kernel

/-- V4.1, P1 step 6. -/
theorem test_rd_status :
    resOf .rdStatus State.reset = some 0x00000000 ∧
    resOf .rdStatus
      { State.reset with rlen := 3, dest := .dataReady, cnt := 3, phase := .validated, result := .ok } =
        some 0x03030312 := by decide +kernel

/-! ## Field operations -/

/-- V5.1. -/
theorem test_rd_byte_reset :
    [0x00#7, 0x1F, 0x20, 0x3F, 0x40, 0x41, 0x42, 0x45, 0x46, 0x57].map (fun a => resOf (.rdByte a) State.reset) =
      [some 0x15, some 0x15, some 0x15, some 0x15, some 0x00, some 0x00, some 0xFF, some 0xFF, some 0xFF,
        some 0xFF] := by decide +kernel

/-- V5.9: the address is the byte's place, high byte first. -/
theorem test_rd_byte_order :
    resOf (.rdByte 0x46) (State.reset.snapWrite 0x46 [0x01, 0x02]) = some 0x01 ∧
    resOf (.rdByte 0x47) (State.reset.snapWrite 0x46 [0x01, 0x02]) = some 0x02 ∧
    resOf .measPm1_0 (State.reset.snapWrite 0x46 [0x01, 0x02]) = some 0x00000102 := by decide +kernel

/-- V5.5, V5.6. -/
theorem test_rd_flag :
    resOf (.rdFlag 1 5) (withStatus [0x00, 0x20, 0x00, 0x00]) = some 1 ∧
    resOf (.rdFlag 1 4) (withStatus [0x00, 0x20, 0x00, 0x00]) = some 0 ∧
    resOf (.rdFlag 3 4) (withStatus [0x00, 0x20, 0x02, 0xD0]) = some 1 ∧
    resOf (.rdFlag 3 5) (withStatus [0x00, 0x20, 0x02, 0xD0]) = some 0 := by decide +kernel

/-- V5.3. -/
theorem test_rd_data_ready :
    resOf .rdDataReady (withReady [0x80, 0x00]) = some 0 ∧ resOf .rdDataReady (withReady [0x00, 0x80]) = some 1 ∧
    resOf .rdDataReady (withReady [0xFF, 0x00]) = some 0 ∧ resOf .rdDataReady (withReady [0x00, 0x01]) = some 1 := by
  decide +kernel

/-- V5.7, the rows with one flag and those with none. -/
theorem test_named_flags :
    flags (withStatus [0x00, 0x20, 0x00, 0x00]) = [some 1, some 0, some 0, some 0, some 0, some 0] ∧
    flags (withStatus [0x00, 0x00, 0x02, 0x00]) = [some 0, some 1, some 1, some 0, some 0, some 0] ∧
    flags (withStatus [0x00, 0x00, 0x00, 0x80]) = [some 0, some 0, some 0, some 1, some 0, some 0] ∧
    flags (withStatus [0x00, 0x00, 0x00, 0x40]) = [some 0, some 0, some 0, some 0, some 1, some 0] ∧
    flags (withStatus [0x00, 0x00, 0x00, 0x10]) = [some 0, some 0, some 0, some 0, some 0, some 1] := by
  decide +kernel

/-- V5.7, every bit but the five; V5.6, all six. -/
theorem test_named_flags_none_and_all :
    flags (withStatus [0xFF, 0xDF, 0xFD, 0x2F]) = [some 0, some 0, some 0, some 0, some 0, some 0] ∧
    flags (withStatus [0x00, 0x20, 0x02, 0xD0]) = [some 1, some 1, some 1, some 1, some 1, some 1] := by
  decide +kernel

/-- V5.8. -/
theorem test_measurements :
    [resOf .measPm1_0 withWords, resOf .measPm2_5 withWords, resOf .measPm4_0 withWords, resOf .measPm10_0 withWords,
      resOf .measHumidity withWords, resOf .measTemperature withWords, resOf .measVoc withWords,
      resOf .measNox withWords, resOf .measCo2 withWords] =
    [some 0x0000FFFF, some 0x00000000, some 0x00008000, some 0x00007FFF, some 0xFFFF8000, some 0x00007FFF,
      some 0xFFFFFFFF, some 0x00000000, some 0x00008000] := by decide +kernel

/-! ## The snapshot memory and reset -/

/-- Writing what an unlisted address reads as removes the cell, so equal snapshots are equal data (log 8). -/
theorem test_memory_is_canonical :
    Memory.wf State.reset.snap ∧ Memory.write [] 0x42 0x00 = [(0x42, 0x00)] ∧
    Memory.write [(0x42, 0x00)] 0x42 0xFF = [] ∧
    Memory.writeBytes [] 0x42 [0x20, 0xFF, 0x10] = [(0x42, 0x20), (0x44, 0x10)] ∧
    Memory.write [] 0x58 0x00 = [] := by decide +kernel

/-- What keeps a snapshot from being canonical. -/
theorem test_ill_formed_memory :
    ¬ Memory.wf [(0x43, 0x00), (0x42, 0x00)] ∧ ¬ Memory.wf [(0x42, 0xFF)] ∧ ¬ Memory.wf [(0x58, 0x00)] := by
  decide +kernel

/-- The instruction of a table row runs as the first step after reset (log 7). -/
theorem test_step_runs_the_fetched_word :
    step (State.reset.withFetchWord 32 0x22000000) = exec .rdDataReady State.reset ∧
    step (State.reset.withFetchWord 16 0x0300) = exec .readMeasuredValues State.reset ∧
    step (State.reset.withFetchWord 32 0x49000000) = .refused .reservedOpsel := ⟨rfl, rfl, rfl⟩

/-! ## Witnesses -/

/-- The invariant of a state, checked part by part. -/
theorem inv_of_parts {s : State} (h : Memory.wf s.snap ∧ s.rlen.toNat % 3 = 0 ∧ (s.dest = .none ↔ s.rlen = 0) ∧
    s.rlen.toNat * 2 / 3 = destSize s.dest ∧ s.cnt.toNat ≤ s.rlen.toNat ∧
    (s.result = .none ↔ s.phase = .idle ∨ s.phase = .receiving) ∧ (s.result = .ok ↔ s.phase = .validated)) :
    s.Inv := ⟨h.1, h.2.1, h.2.2.1, h.2.2.2.1, h.2.2.2.2.1, h.2.2.2.2.2.1, h.2.2.2.2.2.2⟩

theorem inv_reset : State.reset.Inv := inv_of_parts (by decide +kernel)

theorem inv_rejected : rejected.Inv := inv_of_parts (by decide +kernel)

theorem inv_good : good.Inv := inv_of_parts (by decide +kernel)

theorem inv_busy_0 : (busy 0 0x00 0x00).Inv := inv_of_parts (by decide +kernel)

theorem inv_busy_4 : (busy 4 0x00 0x00).Inv := inv_of_parts (by decide +kernel)

theorem inv_busy_5 : (busy 5 0x00 0x00).Inv := inv_of_parts (by decide +kernel)

theorem witness_DecodeOfEncodeIsTheInstruction :
    (Instr.rdByte 0x57).wf = true ∧ Instr.activateShtHeater.wf = true := by decide

theorem witness_EncodeOfDecodeIsTheCanonicalWord :
    (PortWord.op32 0x11FFFFFF).canonical = true ∧ (PortWord.op32 0x48000000).canonical = true ∧
    (PortWord.cmd16 0x6765).canonical = true := by decide

theorem witness_ReservedOpselMatchesNothing :
    (State.reset.withFetchWord 32 0xFF000000).inputs = .word (.op32 0xFF000000) :: [] ∧
    decode (.op32 0xFF000000) = none := by decide

theorem witness_StepRunsTheDecodedInstruction :
    (State.reset.withFetchWord 32 0x02000055).inputs = .word (.op32 0x02000055) :: [] ∧
    decode (.op32 0x02000055) = some (.push 0x55) ∧ (Instr.push 0x55).wf = true := by decide

theorem witness_EmptyPortChangesNothing : State.reset.inputs = [] := rfl

/-- A reset event on the port; the reset state itself; the addresses where the clauses meet. -/
theorem witness_ResetGivesTheStateOfTheSpec :
    { good with inputs := [.reset, .reset] }.inputs = .reset :: [.reset] ∧
    [0x00, 0x1F, 0x20, 0x3F, 0x40, 0x41, 0x42, 0x45, 0x46, 0x57].map State.reset.snap.read =
      [some 0x15, some 0x15, some 0x15, some 0x15, some 0x00, some 0x00, some 0xFF, some 0xFF, some 0xFF,
        some 0xFF] := by decide +kernel

theorem witness_state_at_reset : State.reset.AtReset := by
  have key : ∀ a : Fin 88, State.reset.snap.read a.val = some (resetByte a.val) := by decide +kernel
  refine ⟨?_, ?_, ?_, ?_, ?_, rfl, rfl, rfl, rfl, rfl, rfl, rfl, rfl⟩
  · intro a h
    rw [key ⟨a, by omega⟩, resetByte, if_pos (show a < 0x40 by omega)]; rfl
  · intro a _ h
    rw [key ⟨a, by omega⟩, resetByte, if_pos h]; rfl
  · intro a h0 h
    rw [key ⟨a, by omega⟩, resetByte, if_neg (Nat.not_lt.2 h0), if_pos h]; rfl
  · intro a h0 h
    rw [key ⟨a, by omega⟩, resetByte, if_neg (show ¬a < 0x40 by omega), if_neg (Nat.not_lt.2 h0)]; rfl
  · intro a h0 h
    rw [key ⟨a, by omega⟩, resetByte, if_neg (show ¬a < 0x40 by omega), if_neg (show ¬a < 0x42 by omega)]; rfl

/-- In the middle of an exchange, with an END on the port. -/
theorem witness_StepKeepsTheInvariant :
    (good.withFetchWord 32 0x03000000).Inv ∧ ∃ t, step (good.withFetchWord 32 0x03000000) = .next t :=
  ⟨inv_of_parts (by decide +kernel), _, rfl⟩

theorem witness_SnapshotsThatReadAlikeAreEqual :
    Memory.wf [(0x40, 0x80)] ∧ Memory.wf (Memory.write [(0x40, 0x80), (0x57, 0x00)] 0x57 0xFF) ∧
    ∀ a, Memory.read [(0x40, 0x80)] a = Memory.read (Memory.write [(0x40, 0x80), (0x57, 0x00)] 0x57 0xFF) a := by
  refine ⟨by decide +kernel, by decide +kernel, fun a => ?_⟩
  rw [show Memory.write [(0x40, 0x80), (0x57, 0x00)] 0x57 0xFF = [(0x40, 0x80)] by decide +kernel]

theorem witness_EachWordAcceptsExactlyItsChecksum : (0x93#8 : Byte) ≠ crc8 0xBE 0xEF := by decide +kernel

/-- V2.7: one bit (the lowest) and two bits (the highest and the lowest) of the chunk `BE EF 92`. -/
theorem witness_OneAndTwoBitChangesOfAChunkAreDetected :
    verify 0xBE 0xEF 0x92 = true ∧ (0x00#8 ++ (0x00#8 ++ 0x01#8) : BitVec 24) = 1#24 <<< 0 ∧
    (0x80#8 ++ (0x00#8 ++ 0x01#8) : BitVec 24) = (1#24 <<< 23) ^^^ (1#24 <<< 0) := by decide +kernel

/-- Frames with each outcome, the empty one among them. -/
theorem witness_FrameOutcomeAndPayloadByIndex :
    decodeFrame [0x00] = .lengthError ∧ decodeFrame [0x00, 0x00, 0x00] = .checksumError ∧ decodeFrame [] = .ok [] := by
  decide +kernel

theorem witness_EncodedFrameDecodesBackAndOneBadChecksumRejects :
    [0x00#8, 0x20, 0x02, 0xD0].length % 2 = 0 ∧ 1 < [0x00#8, 0x20, 0x02, 0xD0].length / 2 ∧
    (0x5D#8 : Byte) ≠ (encodeFrame [0x00, 0x20, 0x02, 0xD0]).getD (3 * 1 + 2) 0 := by decide +kernel

theorem witness_EveryCatalogueRowFillsItsField : (⟨0x0300, 27, .measuredValues, 20⟩ : CatalogEntry) ∈ catalog := by
  decide

theorem witness_EachCommandWordLatchesItsRow : State.reset.phase ≠ .receiving ∧ rejected.phase ≠ .receiving := by
  decide

theorem witness_WriteOnlyCommandValidatesAndCommitsNothing : rejected.phase ≠ .receiving := by decide

theorem witness_LoadCmdOfAKnownWordStartsAnExchange :
    State.reset.phase ≠ .receiving ∧ lookup 0x6765 = some ⟨0x6765, 0, .none, 21300⟩ := by decide

theorem witness_LoadCmdOfAnUnknownWordRejects :
    State.reset.phase ≠ .receiving ∧ lookup 0x6764 = none ∧ lookup 0xFFFF = none := by decide

/-- One state for each of the four clauses: byte 0 and the last byte of a chunk, the last byte of the frame, one byte
too many. -/
theorem witness_PushStagesCountsAndChecks :
    ((busy 0 0x00 0x00).Inv ∧ (busy 0 0x00 0x00).phase = .receiving ∧ (0#6 : BitVec 6) ≠ (busy 0 0x00 0x00).rlen) ∧
    ((busy 4 0x00 0x00).Inv ∧ (busy 4 0x00 0x00).cnt.toNat % 3 = 1) ∧
    ((busy 5 0x00 0x00).Inv ∧ (busy 5 0x00 0x00).cnt.toNat % 3 = 2) ∧
    (good.Inv ∧ good.cnt = good.rlen) :=
  ⟨⟨inv_busy_0, rfl, by decide⟩, ⟨inv_busy_4, rfl⟩, ⟨inv_busy_5, rfl⟩, inv_good, rfl⟩

theorem witness_EndRejectsWrongLengthThenBadChecksum :
    good.phase = .receiving ∧ { good with overrun := true }.overrun = true ∧
    (busy 5 0x00 0x00).cnt ≠ (busy 5 0x00 0x00).rlen ∧
    ({ good with bad := true }.overrun = false ∧ { good with bad := true }.cnt = { good with bad := true }.rlen ∧
      { good with bad := true }.bad = true) := by decide

theorem witness_EndOfAGoodFrameCommitsItsPayload :
    good.Inv ∧ good.phase = .receiving ∧ good.overrun = false ∧ good.cnt = good.rlen ∧ good.bad = false :=
  ⟨inv_good, rfl, rfl, rfl, rfl⟩

/-- A validating END and a rejecting one; the addresses beside the field. -/
theorem witness_EndWritesOnlyTheDestinationField :
    (∃ t, exec .endFrame good = .next t ∧ t.phase = .validated) ∧
    (∃ t, exec .endFrame (busy 5 0x00 0x00) = .next t ∧ t.phase ≠ .validated) ∧
    0x41 < destBase good.dest ∧ destBase good.dest + good.payload.length ≤ 0x46 :=
  ⟨⟨_, rfl, rfl⟩, ⟨_, rfl, by decide +kernel⟩, by decide, by decide +kernel⟩

theorem witness_AbortRejectsWithTransportError : good.phase = .receiving := rfl

theorem witness_WrongPhaseIsAProtocolError :
    (good.phase = .receiving ∧ (Instr.loadCmd 0x0316).commandWord ≠ none ∧ Instr.getDataReady.commandWord ≠ none) ∧
    (State.reset.phase ≠ .receiving ∧ rejected.phase ≠ .receiving) := by decide

/-- A state for each clause. -/
theorem witness_PhaseMachineHasExactlyTheseTransitions :
    State.reset.Inv ∧ rejected.Inv ∧ good.Inv ∧
    (Instr.rdStatus.isQuery = true ∧ (Instr.loadCmd 0x0202).commandWord = some 0x0202 ∧
      (lookup 0x0202).isSome = true ∧ lookup 0x0316 = none) ∧
    (busy 5 0x00 0x00).Inv ∧ (busy 5 0x00 0x00).cnt ≠ (busy 5 0x00 0x00).rlen ∧
    ({ good with bad := true } : State).Inv ∧
    { good with inputs := [.reset] }.inputs = .reset :: [] :=
  ⟨inv_reset, inv_rejected, inv_good, by decide, inv_busy_5, by decide, inv_of_parts (by decide +kernel), rfl⟩

/-- An exchange with a query and a checksum operation in it, for each outcome. -/
theorem witness_ExchangeAgreesWithDecodeFrame :
    State.reset.phase ≠ .receiving ∧ lookup 0x0202 = some ⟨0x0202, 3, .dataReady, 20⟩ ∧
    [Instr.rdStatus, .loadCmd 0x0202, .push 0x80, .rdDataReady, .push 0x00, .crcCompute 0x80 0x00, .push 0xA2,
        .endFrame].filter (fun i => !i.isQuery) = pseudoExchange 0x0202 [0x80, 0x00, 0xA2] ∧
    decodeFrame [0x80, 0x00, 0xA2] = .ok [0x80, 0x00] ∧ decodeFrame [0x80, 0x00, 0xA3] = .checksumError ∧
    decodeFrame [0x80] = .lengthError := by decide +kernel

/-- A validating END on the port: byte 0x42 changes. -/
theorem witness_OnlyResetOrAValidatingEndChangesTheSnapshot :
    (good.withFetchWord 32 0x03000000).Inv ∧
    ∃ t, step (good.withFetchWord 32 0x03000000) = .next t ∧
      t.snap.read 0x42 ≠ (good.withFetchWord 32 0x03000000).snap.read 0x42 :=
  ⟨inv_of_parts (by decide +kernel), _, rfl, by decide +kernel⟩

/-- An exchange of one byte and an ABORT. -/
theorem witness_RejectedExchangeLeavesTheSnapshot :
    State.reset.phase ≠ .receiving ∧
    (∀ (pre post : List Instr) (u : State), [Instr.push 0x00, .abort] = pre ++ post → post ≠ [] →
      runInstrs (.loadCmd 0xD206 :: pre) State.reset = .next u → u.phase = .receiving) ∧
    ∃ t, runInstrs [.loadCmd 0xD206, .push 0x00, .abort] State.reset = .next t ∧ t.phase = .rejected := by
  refine ⟨by decide, fun pre post u h hne hu => ?_, _, rfl, rfl⟩
  rcases pre with _ | ⟨a, _ | ⟨b, pre⟩⟩
  · cases hu; rfl
  · simp only [List.cons_append, List.nil_append, List.cons.injEq] at h
    obtain ⟨rfl, _⟩ := h
    cases hu; rfl
  · simp only [List.cons_append, List.cons.injEq, List.nil_eq, List.append_eq_nil_iff] at h
    exact absurd h.2.2.2 hne

theorem witness_RejectionRestsUntilACommandIsLoaded :
    rejected.phase = .rejected ∧ ∀ i ∈ [Instr.push 0x00, .rdStatus, .endFrame, .abort], i.commandWord = none := by
  decide

/-- The last address with a byte and the first without. -/
theorem witness_RdByteReturnsTheSnapshotByte :
    (0x57#7).toNat ≤ 0x57 ∧ 0x58 ≤ (0x58#7).toNat ∧ State.reset.snap.read 0x57 = some 0xFF ∧
    State.reset.snap.read 0x58 = none := by decide +kernel

theorem witness_RdFlagReturnsTheBit :
    State.reset.snap.read (0x42 + (0#2).toNat) = some 0xFF ∧
    (withStatus [0, 0, 0, 0xD0]).snap.read (0x42 + (3#2).toNat) = some 0xD0 := by decide +kernel

theorem witness_NamedFlagsReturnTheirBits :
    (withStatus [0x00, 0x20, 0x02, 0xD0]).snap.read 0x43 = some 0x20 ∧
    (withStatus [0x00, 0x20, 0x02, 0xD0]).snap.read 0x44 = some 0x02 ∧
    (withStatus [0x00, 0x20, 0x02, 0xD0]).snap.read 0x45 = some 0xD0 := by decide +kernel

theorem witness_RdDataReadyLooksAtByteOne : (withReady [0x00, 0x80]).snap.read 0x41 = some 0x80 := by decide +kernel

theorem witness_UnsignedMeasurementsReturnTheirWord :
    withWords.snap.read 0x46 = some 0xFF ∧ withWords.snap.read (0x46 + 1) = some 0xFF ∧
    withWords.snap.read 0x56 = some 0x80 ∧ withWords.snap.read (0x56 + 1) = some 0x00 := by decide +kernel

/-- The two sides of the sign: 0x8000 and 0x7FFF. -/
theorem witness_SignedMeasurementsReturnTheirWord :
    withWords.snap.read 0x4E = some 0x80 ∧ withWords.snap.read (0x4E + 1) = some 0x00 ∧
    withWords.snap.read 0x50 = some 0x7F ∧ withWords.snap.read (0x50 + 1) = some 0xFF := by decide +kernel

theorem witness_QueriesWriteNothingButRes : (Instr.rdByte 0x58).isQuery = true := rfl

theorem witness_RepeatedQueryReturnsTheSame :
    (Instr.rdByte 0x57).isQuery = true ∧ (∀ a, Instr.rdByte 0x57 = .rdByte a → a.toNat ≤ 0x57) ∧
    (∀ q ∈ [Instr.measVoc, .rdByte 0x57, .rdByte 0x7F], q.isQuery = true) ∧
    ∃ u, runInstrs [.measVoc, .rdByte 0x57, .rdByte 0x7F] State.reset = .next u :=
  ⟨rfl, fun _ h => by cases h; decide, by decide, _, rfl⟩

theorem witness_EverythingButEndKeepsEverySnapshotByte : Instr.push 0x00 ≠ .endFrame := by decide

/-- A PUSH that writes HI, STG and CNT, and a LOAD_CMD that writes CMDREG, RLEN and DEST. -/
theorem witness_EachRegisterHasOnlyItsWriters :
    (∃ t, exec (.push 0x99) (busy 3 0x00 0x00) = .next t ∧ t.hi ≠ (busy 3 0x00 0x00).hi ∧
      t.cnt ≠ (busy 3 0x00 0x00).cnt ∧ t.stg ≠ (busy 3 0x00 0x00).stg) ∧
    ∃ t, exec .readMeasuredValues rejected = .next t ∧ t.cmdreg ≠ rejected.cmdreg ∧ t.rlen ≠ rejected.rlen :=
  ⟨⟨_, rfl, by decide +kernel⟩, _, rfl, by decide +kernel⟩

theorem witness_HiddenRegistersOutsideAnExchangeReachNoResult :
    State.reset.phase ≠ .receiving ∧
    State.reset.AgreesButHidden
      { State.reset with hi := 0xAA, lo := 0x55, bad := true, overrun := true, stg := Vector.replicate 32 0xC3 } :=
  ⟨by decide, rfl⟩

end Sys2Proof.Tests
end

namespace Sys2Proof
open Machine

/-! ## Which OPSEL values decode (spec/30_encoding.md R71) -/

/-- The reserved values, as the ranges R71 lists. -/
theorem opselDefined_eq_false_iff (sel : BitVec 8) :
    opselDefined sel = false ↔
      sel.toNat = 0x00 ∨
      (0x05 ≤ sel.toNat ∧ sel.toNat ≤ 0x07) ∨
      (0x09 ≤ sel.toNat ∧ sel.toNat ≤ 0x0F) ∨
      (0x12 ≤ sel.toNat ∧ sel.toNat ≤ 0x1F) ∨
      (0x23 ≤ sel.toNat ∧ sel.toNat ≤ 0x2F) ∨
      (0x36 ≤ sel.toNat ∧ sel.toNat ≤ 0x3F) ∨
      0x49 ≤ sel.toNat := by
  simp only [opselDefined, Bool.not_eq_false', Bool.or_eq_true, Bool.and_eq_true, decide_eq_true_eq, or_assoc]

/-- The decoder's map (R62) and the reserved list (R71) are complementary: every OPSEL the map names is defined, and
one that it does not name differs from all 25 and so is on the list. -/
theorem decodeOp32_eq_none_iff (w : Word32) : decodeOp32 w = none ↔ opselDefined (opsel w) = false := by
  unfold decodeOp32
  split
  case h_26 =>
    refine iff_of_true rfl ((opselDefined_eq_false_iff _).2 ?_)
    -- the match leaves `… = n → False` for its 25 arms, which omega reads only as `≠`
    simp only [imp_false] at *
    omega
  all_goals
    next hsel => simp [opselDefined, hsel]

/-- A step on a word that decodes to nothing refuses it. -/
theorem step_of_decode_eq_none {s : State} {p : PortWord} {rest : List HostInput}
    (hin : s.inputs = .word p :: rest) (hd : decode p = none) : step s = .refused .reservedOpsel := by
  simp [step, hin, hd]

/-- Settles O3: decoding fails exactly off the map of R62, which is the list of R71, and the step refuses there. -/
theorem reservedOpselMatchesNothing : Obligations.ReservedOpselMatchesNothing :=
  ⟨fun w => (decodeOp32_eq_none_iff w).trans (opselDefined_eq_false_iff (opsel w)),
    fun _ _ _ hin hd => step_of_decode_eq_none hin hd⟩

/-! ## What OPSEL and ARG select (spec/30_encoding.md R61 to R64) -/

/-- An operation that names no ARG bit is selected by OPSEL alone (R64). -/
theorem decode_op32_of_argBits_zero (sel : BitVec 8) (arg : BitVec 24) (h : argBits sel = 0) :
    decode (op32 sel arg) = decode (op32 sel 0) := by
  simp only [decode, op32, decodeOp32, opsel_append]
  split
  -- the six arms that read ARG: their OPSEL has named bits, against `h`
  case h_1 | h_2 | h_6 | h_7 | h_8 | h_9 => simp_all [argBits]
  all_goals rfl

/-! The operations with operands: OPSEL stands above ARG (R61), so a field within ARG is the word's field (R63). -/

@[simp] theorem decode_op32_loadCmd (arg : BitVec 24) :
    decode (op32 0x01 arg) = some (.loadCmd (arg.extractLsb' 0 16)) := by
  simp [decode, op32, decodeOp32, opsel_append, word_arg]

@[simp] theorem decode_op32_push (arg : BitVec 24) :
    decode (op32 0x02 arg) = some (.push (arg.extractLsb' 0 8)) := by
  simp [decode, op32, decodeOp32, opsel_append, word_arg]

@[simp] theorem decode_op32_crcCompute (arg : BitVec 24) :
    decode (op32 0x10 arg) = some (.crcCompute (arg.extractLsb' 8 8) (arg.extractLsb' 0 8)) := by
  simp [decode, op32, decodeOp32, opsel_append, word_arg]

@[simp] theorem decode_op32_crcVerify (arg : BitVec 24) :
    decode (op32 0x11 arg) =
      some (.crcVerify (arg.extractLsb' 16 8) (arg.extractLsb' 8 8) (arg.extractLsb' 0 8)) := by
  simp [decode, op32, decodeOp32, opsel_append, word_arg]

@[simp] theorem decode_op32_rdByte (arg : BitVec 24) :
    decode (op32 0x20 arg) = some (.rdByte (arg.extractLsb' 0 7)) := by
  simp [decode, op32, decodeOp32, opsel_append, word_arg]

@[simp] theorem decode_op32_rdFlag (arg : BitVec 24) :
    decode (op32 0x21 arg) = some (.rdFlag (arg.extractLsb' 3 2) (arg.extractLsb' 0 3)) := by
  simp [decode, op32, decodeOp32, opsel_append, word_arg]

/-- Settles O4: the six operations with operands by their own lemmas, the other 19 decode at `arg` as at 0,
where the decoder computes. -/
theorem opselSelectsAndUnnamedArgBitsAreIgnored : Obligations.OpselSelectsAndUnnamedArgBitsAreIgnored := by
  intro arg
  have noArg {sel : BitVec 8} (h : argBits sel = 0) := decode_op32_of_argBits_zero sel arg h
  exact ⟨decode_op32_loadCmd arg, decode_op32_push arg, noArg rfl, noArg rfl, noArg rfl,
    decode_op32_crcCompute arg, decode_op32_crcVerify arg, decode_op32_rdByte arg, decode_op32_rdFlag arg,
    noArg rfl, noArg rfl, noArg rfl, noArg rfl, noArg rfl, noArg rfl, noArg rfl, noArg rfl,
    noArg rfl, noArg rfl, noArg rfl, noArg rfl, noArg rfl, noArg rfl, noArg rfl, noArg rfl⟩

end Sys2Proof

namespace Sys2Proof
open Machine

/-! ## The forms of RES (spec/30_encoding.md R65) -/

theorem zextByte_eq_append (b : Byte) : zextByte b = 0#24 ++ b :=
  BitVec.setWidth_eq_append (by decide)

theorem zextBool_eq_ite (b : Bool) : zextBool b = if b then 1 else 0 := by
  cases b <;> rfl

/-! ## The checksum of a chunk (spec/40_checksum.md R80 to R85) -/

/-- R82: a chunk is valid exactly when its third byte is the checksum of the first two. -/
theorem verify_eq_true_iff (hi lo rx : Byte) : verify hi lo rx = true ↔ crc8 hi lo = rx :=
  beq_iff_eq

theorem verify_eq_false_iff (hi lo rx : Byte) : verify hi lo rx = false ↔ crc8 hi lo ≠ rx :=
  beq_eq_false_iff_ne

/-- Settles O14: validity of a chunk is equality with the checksum, and equality names one byte. -/
theorem eachWordAcceptsExactlyItsChecksum : Obligations.EachWordAcceptsExactlyItsChecksum :=
  fun hi lo rx =>
    ⟨(verify_eq_true_iff hi lo _).2 rfl, fun hne => (verify_eq_false_iff hi lo rx).2 hne.symm,
      verify_eq_true_iff hi lo rx⟩

/-! ## CRC_COMPUTE and CRC_VERIFY (spec/40_checksum.md R83, R84) -/

theorem exec_crcCompute (w0 w1 : Byte) (s : State) :
    exec (.crcCompute w0 w1) s = .next (s.setRes (zextByte (crc8 w0 w1))) := rfl

theorem exec_crcVerify (w0 w1 rx : Byte) (s : State) :
    exec (.crcVerify w0 w1 rx) s = .next (s.setRes (zextBool (verify w0 w1 rx))) := rfl

/-- R83: a word of zeros does not have checksum 0, because of CRC_INIT. -/
theorem crc8_zeros : crc8 0x00 0x00 = 0x81 := by decide +kernel

theorem crc8_ones : crc8 0xFF 0xFF = 0xAC := by decide +kernel

/-- Settles O17: the fields of the word are the two bytes under any ARG[23:16], and the one register written is RES. -/
theorem crcComputeReturnsTheChecksum : Obligations.CrcComputeReturnsTheChecksum := by
  intro w0 w1 x s
  refine ⟨?_, ?_, rfl, crc8_zeros, crc8_ones, by decide +kernel⟩
  · rw [decode_op32_crcCompute, arg_pair_hi, arg_pair_lo]
  · rw [exec_crcCompute, zextByte_eq_append, State.setRes]

/-- Settles O18: the fields of the word are the chunk in wire order, and RES is the truth value of its validity; the
chunks of zeros and of ones are invalid because their words have the checksums 0x81 and 0xAC. -/
theorem crcVerifyAnswersAndRaisesNothing : Obligations.CrcVerifyAnswersAndRaisesNothing := by
  intro w0 w1 rx s
  refine ⟨?_, ?_, ?_, ?_⟩
  · rw [decode_op32_crcVerify, arg_top, arg_pair_hi, arg_pair_lo]
  · simp only [exec_crcVerify, zextBool_eq_ite, verify_eq_true_iff, State.setRes]
  · rw [crc8_zeros]
    decide
  · rw [crc8_ones]
    decide

end Sys2Proof

namespace Sys2Proof
open Machine

/-! ## The frame decoder (spec/41_frame_decoder.md R90 to R94)

Decoding splits into a test, that every chunk is valid, and a copy that does not depend on the test: the data bytes. -/

/-- Whether chunk `i` of the frame passes `verify` (R91 for its three indices). -/
def chunkVerified (f : List Byte) (i : Nat) : Bool :=
  verify (f.getD (3 * i) 0) (f.getD (3 * i + 1) 0) (f.getD (3 * i + 2) 0)

@[simp] theorem chunkVerified_zero (hi lo rx : Byte) (rest : List Byte) :
    chunkVerified (hi :: lo :: rx :: rest) 0 = verify hi lo rx := rfl

@[simp] theorem chunkVerified_succ (hi lo rx : Byte) (rest : List Byte) (i : Nat) :
    chunkVerified (hi :: lo :: rx :: rest) (i + 1) = chunkVerified rest i := rfl

/-- The data bytes of the whole chunks, in order, whether or not the chunks are valid. -/
def frameData : List Byte → List Byte
  | hi :: lo :: _ :: rest => hi :: lo :: frameData rest
  | _ => []

/-- What is left when the match on a chunk fails holds no whole chunk. -/
theorem length_div_three_of_not_chunk {f : List Byte}
    (hshort : ∀ hi lo rx rest, f = hi :: lo :: rx :: rest → False) : f.length / 3 = 0 := by
  match f with
  | [] | [_] | [_, _] => simp
  | _ :: _ :: _ :: _ => exact (hshort _ _ _ _ rfl).elim

/-- The first chunk has index 0, and the chunks after it are those of the rest. -/
theorem forall_chunkVerified_cons (hi lo rx : Byte) (rest : List Byte) :
    (∀ i < (hi :: lo :: rx :: rest).length / 3, chunkVerified (hi :: lo :: rx :: rest) i = true) ↔
      verify hi lo rx = true ∧ ∀ i < rest.length / 3, chunkVerified rest i = true := by
  have hlen : (hi :: lo :: rx :: rest).length / 3 = rest.length / 3 + 1 := Nat.add_div_right _ (Nat.succ_pos 2)
  rw [hlen, Nat.forall_lt_succ_left]
  simp only [chunkVerified_zero, chunkVerified_succ]

/-- The loop of R90 is the copy guarded by the test on every chunk. -/
theorem decodeChunks_eq_ite (f : List Byte) :
    decodeChunks f = if ∀ i < f.length / 3, chunkVerified f i = true then some (frameData f) else none := by
  induction f using decodeChunks.induct with
  | case1 hi lo rx rest hv ih =>
    simp only [decodeChunks, frameData, forall_chunkVerified_cons, hv, ih, true_and, if_true]
    split <;> rfl
  | case2 hi lo rx rest hv =>
    rw [decodeChunks, if_neg hv, if_neg (fun hall => hv ((forall_chunkVerified_cons ..).1 hall).1)]
  | case3 f hshort => simp [decodeChunks, frameData, length_div_three_of_not_chunk hshort]

theorem decodeChunks_eq_some_iff (f p : List Byte) :
    decodeChunks f = some p ↔ (∀ i < f.length / 3, chunkVerified f i = true) ∧ p = frameData f := by
  rw [decodeChunks_eq_ite, Option.ite_none_right_eq_some, Option.some.injEq, eq_comm (a := p)]

theorem decodeChunks_eq_none_iff (f : List Byte) :
    decodeChunks f = none ↔ ∃ i < f.length / 3, chunkVerified f i = false := by
  simp [decodeChunks_eq_ite]

/-! What a frame's payload is, byte by byte. -/

theorem length_frameData (f : List Byte) : (frameData f).length = f.length / 3 * 2 := by
  induction f using frameData.induct with
  | case1 hi lo rx rest ih =>
    simp only [frameData, List.length_cons, ih]
    omega
  | case2 f hshort => simp [frameData, length_div_three_of_not_chunk hshort]

/-- R91: payload byte `j` is byte `j % 2` of chunk `j / 2`. -/
theorem getD_frameData (f : List Byte) (j : Nat) (hj : j < f.length / 3 * 2) :
    (frameData f).getD j 0 = f.getD (j / 2 * 3 + j % 2) 0 := by
  induction f using frameData.induct generalizing j with
  | case1 hi lo rx rest ih =>
    match j with
    | 0 | 1 => rfl
    | j + 2 =>
      have hsrc : (j + 2) / 2 * 3 + (j + 2) % 2 = j / 2 * 3 + j % 2 + 3 := by omega
      rw [hsrc]
      exact ih j (by simp only [List.length_cons] at hj; omega)
  | case2 f hshort => simp [length_div_three_of_not_chunk hshort] at hj

/-- For a frame of whole chunks the payload is settled by its length (R92) and by where each frame byte goes (R91):
`k ↦ k / 3 * 2 + k % 3` and `j ↦ j / 2 * 3 + j % 2` undo each other. -/
theorem eq_frameData_iff (f p : List Byte) (hf : f.length % 3 = 0) :
    p = frameData f ↔
      p.length = f.length * 2 / 3 ∧
        ∀ k, k < f.length → k % 3 ≠ 2 → p.getD (k / 3 * 2 + k % 3) 0 = f.getD k 0 := by
  constructor
  · rintro rfl
    refine ⟨by rw [length_frameData]; omega, fun k hk hk2 => ?_⟩
    have hback : (k / 3 * 2 + k % 3) / 2 * 3 + (k / 3 * 2 + k % 3) % 2 = k := by omega
    rw [getD_frameData f _ (by omega), hback]
  · rintro ⟨hlen, hbytes⟩
    have hlen' : p.length = (frameData f).length := by rw [length_frameData]; omega
    refine List.ext_getElem hlen' fun j hp hd => ?_
    have hback : (j / 2 * 3 + j % 2) / 3 * 2 + (j / 2 * 3 + j % 2) % 3 = j := by omega
    have hbyte := hbytes (j / 2 * 3 + j % 2) (by omega) (by omega)
    rw [hback, ← getD_frameData f j (by omega)] at hbyte
    rwa [List.getD_eq_getElem _ _ hp, List.getD_eq_getElem _ _ hd] at hbyte

/-! The three outcomes: R94 puts the length test first, and the loop decides between the other two. -/

theorem decodeFrame_cases (f : List Byte) :
    (f.length % 3 ≠ 0 ∧ decodeFrame f = .lengthError) ∨
    (f.length % 3 = 0 ∧ decodeChunks f = none ∧ decodeFrame f = .checksumError) ∨
    (f.length % 3 = 0 ∧ ∃ p, decodeChunks f = some p ∧ decodeFrame f = .ok p) := by
  by_cases hf : f.length % 3 = 0
  · rcases hc : decodeChunks f with _ | p
    · exact .inr (.inl ⟨hf, rfl, by simp [decodeFrame, hf, hc]⟩)
    · exact .inr (.inr ⟨hf, p, rfl, by simp [decodeFrame, hf, hc]⟩)
  · exact .inl ⟨hf, if_pos hf⟩

theorem decodeFrame_eq_lengthError_iff (f : List Byte) : decodeFrame f = .lengthError ↔ f.length % 3 ≠ 0 := by
  rcases decodeFrame_cases f with ⟨hf, hd⟩ | ⟨hf, _, hd⟩ | ⟨hf, _, _, hd⟩ <;> simp [hf, hd]

theorem decodeFrame_eq_checksumError_iff (f : List Byte) :
    decodeFrame f = .checksumError ↔ f.length % 3 = 0 ∧ decodeChunks f = none := by
  rcases decodeFrame_cases f with ⟨hf, hd⟩ | ⟨hf, hc, hd⟩ | ⟨hf, _, hc, hd⟩ <;> simp [*]

theorem decodeFrame_eq_ok_iff (f p : List Byte) :
    decodeFrame f = .ok p ↔ f.length % 3 = 0 ∧ decodeChunks f = some p := by
  rcases decodeFrame_cases f with ⟨hf, hd⟩ | ⟨hf, hc, hd⟩ | ⟨hf, _, hc, hd⟩ <;> simp [*]

/-- Settles O19: the outcomes by the length test and the loop, the loop by its chunks, the payload by its indices. -/
theorem frameOutcomeAndPayloadByIndex : Obligations.FrameOutcomeAndPayloadByIndex := by
  intro f
  refine ⟨decodeFrame_eq_lengthError_iff f, ?_, fun p => ?_⟩
  · exact (decodeFrame_eq_checksumError_iff f).trans (and_congr_right' (decodeChunks_eq_none_iff f))
  · rw [decodeFrame_eq_ok_iff, decodeChunks_eq_some_iff]
    exact and_congr_right fun hf => and_congr_right' (eq_frameData_iff f p hf)

end Sys2Proof

namespace Sys2Proof
open Machine

/-! ## The catalogue (spec/42_catalog.md R111)

The search for a command word asks one question of each row, in order: is this its word, on all 16 bits? -/

/-- The search at its first row, as a condition on the word. -/
theorem map_find?_word_cons {α : Type} (f : CatalogEntry → α) (w : Word16) (e : CatalogEntry)
    (rows : List CatalogEntry) :
    ((e :: rows).find? (fun r => r.word == w)).map f =
      if w = e.word then some (f e) else (rows.find? (fun r => r.word == w)).map f := by
  by_cases hw : w = e.word
  · simp [hw]
  · simp [hw, Ne.symm hw]

/-- Settles O21: the search takes one condition per row, eleven in all, and the list is then empty. -/
theorem lookupGivesTheElevenRowsAndNoOther : Obligations.LookupGivesTheElevenRowsAndNoOther := by
  intro w
  simp only [lookup, catalog, map_find?_word_cons, List.find?_nil, Option.map_none]
  rfl

end Sys2Proof

namespace Sys2Proof
open Machine

/-! ## The sequencing words (spec/30_encoding.md R63, R64) -/

theorem decode_op32_loadCmd_append (x : BitVec 8) (w : Word16) :
    decode (op32 0x01 (x ++ w)) = some (.loadCmd w) := by
  rw [decode_op32_loadCmd, extract_append_low x w 0 16 (by decide), extract_all]

theorem decode_op32_push_append (x : BitVec 16) (b : Byte) : decode (op32 0x02 (x ++ b)) = some (.push b) := by
  rw [decode_op32_push, extract_append_low x b 0 8 (by decide), extract_all]

/-! ## LOAD_CMD outside RECEIVING (spec/43_sequencer.md R120, R121) -/

@[simp] theorem exec_loadCmd (w : Word16) (s : State) : exec (.loadCmd w) s = execLoadCmd w s := rfl

theorem execLoadCmd_of_lookup_some {s : State} {w : Word16} {e : CatalogEntry} (hp : s.phase ≠ .receiving)
    (hw : lookup w = some e) : execLoadCmd w s = .next (startExchange w e.rlen e.dest s) := by
  simpa [hp, hw] using execLoadCmd_cases s w

theorem execLoadCmd_of_lookup_none {s : State} {w : Word16} (hp : s.phase ≠ .receiving) (hw : lookup w = none) :
    execLoadCmd w s = .next (raise .unknownCommand (s.setCmdreg w)) := by
  simpa [hp, hw] using execLoadCmd_cases s w

/-- Settles O25: a known word is the start of an exchange with its row's descriptor. -/
theorem loadCmdOfAKnownWordStartsAnExchange : Obligations.LoadCmdOfAKnownWordStartsAnExchange := by
  intro s w x e
  refine ⟨decode_op32_loadCmd_append x w, fun hp hw => ?_⟩
  rw [exec_loadCmd, execLoadCmd_of_lookup_some hp hw, startExchange_eq]

/-- Settles O26: an unknown word is latched, and the rejection UNKNOWN_COMMAND writes PHASE, RESULT and RES. -/
theorem loadCmdOfAnUnknownWordRejects : Obligations.LoadCmdOfAnUnknownWordRejects := by
  intro s w x
  refine ⟨decode_op32_loadCmd_append x w, fun hp hw => ?_⟩
  rw [exec_loadCmd, execLoadCmd_of_lookup_none hp hw, raise_eq]
  rfl

/-! ## ABORT in RECEIVING (spec/43_sequencer.md R125) -/

@[simp] theorem exec_abort (s : State) : exec .abort s = execAbort s := rfl

theorem execAbort_of_receiving {s : State} (hp : s.phase = .receiving) :
    execAbort s = .next (raise .transportError s) := by
  simpa [hp] using execAbort_cases s

/-- Settles O31: OPSEL alone selects ABORT, and in RECEIVING it is the rejection TRANSPORT_ERROR. -/
theorem abortRejectsWithTransportError : Obligations.AbortRejectsWithTransportError := by
  intro s arg
  refine ⟨decode_op32_of_argBits_zero 0x04 arg rfl, fun hp => ?_⟩
  rw [exec_abort, execAbort_of_receiving hp, raise_eq]
  rfl

/-! ## RD_STATUS (spec/43_sequencer.md R126) -/

theorem exec_rdStatus (s : State) : exec .rdStatus s = .next (s.setRes (statusWord s)) := rfl

/-- A field of the lower part of a word is that field of the word. -/
theorem extract_append_of_low {n m k l : Nat} {x : BitVec n} {y : BitVec m} {f : BitVec l} (hfit : k + l ≤ m)
    (hy : y.extractLsb' k l = f) : (x ++ y).extractLsb' k l = f :=
  (extract_append_low x y k l hfit).trans hy

/-- The upper part of a word stands right above its lower part. -/
theorem extract_append_top {n m : Nat} (x : BitVec n) (y : BitVec m) : (x ++ y).extractLsb' m n = x := by
  rw [extract_append_high x y m n le_rfl, Nat.sub_self, extract_all]

/-- The fields of the status word from bit 0 up, with the zeros between them: what stands above a field is passed
over, and the field is then the upper part of what is left. -/
theorem statusWord_fields (s : State) :
    (statusWord s).extractLsb' 0 2 = phaseCode s.phase ∧
    (statusWord s).extractLsb' 2 2 = 0 ∧
    (statusWord s).extractLsb' 4 3 = resultCode s.result ∧
    (statusWord s).extractLsb' 7 1 = 0 ∧
    (statusWord s).extractLsb' 8 6 = s.cnt ∧
    (statusWord s).extractLsb' 14 2 = 0 ∧
    (statusWord s).extractLsb' 16 6 = s.rlen ∧
    (statusWord s).extractLsb' 22 2 = 0 ∧
    (statusWord s).extractLsb' 24 3 = destCode s.dest ∧
    (statusWord s).extractLsb' 27 5 = 0 := by
  unfold statusWord
  refine ⟨?phase, ?_, ?_, ?_, ?_, ?_, ?_, ?_, ?_, ?_⟩
  case phase =>
    repeat refine extract_append_of_low (by decide) ?_
    exact extract_all (phaseCode s.phase)
  all_goals
    repeat refine extract_append_of_low (by decide) ?_
    exact extract_append_top _ _

/-- Settles O32: RES is the status word, whose fields are the registers and the codes of PHASE, RESULT and DEST. -/
theorem rdStatusReturnsTheControlRegisters : Obligations.RdStatusReturnsTheControlRegisters := by
  intro s arg
  obtain ⟨hphase, hzero2, hresult, hzero7, hcnt, hzero14, hrlen, hzero22, hdest, hzero27⟩ := statusWord_fields s
  refine ⟨decode_op32_of_argBits_zero 0x08 arg rfl, statusWord s, exec_rdStatus s,
    ?_, hzero2, ?_, hzero7, hcnt, hzero14, hrlen, hzero22, ?_, hzero27⟩
  · rw [hphase]
    cases s.phase <;> rfl
  · rw [hresult]
    cases s.result <;> rfl
  · rw [hdest]
    cases s.dest <;> rfl

/-! ## What the invariant says of the counters (spec/10_state.md R17, R19) -/

/-- The largest field is an identity string, as large as the staging buffer. -/
theorem destSize_le_stgBytes (d : Dest) : destSize d ≤ 32 := by
  cases d <;> decide

theorem rlen_le_of_inv {s : State} (hi : s.Inv) : s.rlen.toNat ≤ 48 := by
  have hchunks := hi.rlenChunks
  have hfield := hi.fieldSize
  have hsize := destSize_le_stgBytes s.dest
  omega

theorem cnt_lt_rlen_of_inv {s : State} (hi : s.Inv) (hc : s.cnt ≠ s.rlen) : s.cnt.toNat < s.rlen.toNat :=
  lt_of_le_of_ne hi.cntBound (mt BitVec.eq_of_toNat_eq hc)

/-! ## PUSH in RECEIVING (spec/43_sequencer.md R122) -/

@[simp] theorem exec_push (b : Byte) (s : State) : exec (.push b) s = execPush b s := rfl

theorem acceptByte_of_full {s : State} (b : Byte) (hc : s.cnt = s.rlen) : s.acceptByte b = s.setOverrun := by
  simpa [hc] using acceptByte_cases s b

theorem acceptByte_of_pos_zero {s : State} (b : Byte) (hc : s.cnt ≠ s.rlen) (hk : s.cnt.toNat % 3 = 0) :
    s.acceptByte b = (s.stageHi b).countByte := by
  simpa [hc, hk] using acceptByte_cases s b

theorem acceptByte_of_pos_one {s : State} (b : Byte) (hc : s.cnt ≠ s.rlen) (hk : s.cnt.toNat % 3 = 1) :
    s.acceptByte b = (s.stageLo b).countByte := by
  simpa [hc, hk] using acceptByte_cases s b

theorem acceptByte_of_pos_two {s : State} (b : Byte) (hc : s.cnt ≠ s.rlen) (hk : s.cnt.toNat % 3 = 2) :
    s.acceptByte b = (s.checkChunk b).countByte := by
  simpa [hc, hk] using acceptByte_cases s b

/-- The checksum byte writes BAD alone, and only when the chunk fails (R23). -/
theorem checkChunk_eq (s : State) (b : Byte) :
    s.checkChunk b = { s with bad := if crc8 s.hi s.lo = b then s.bad else true } := by
  unfold State.checkChunk
  simp only [verify_eq_true_iff]
  split <;> rfl

/-- PUSH reports nothing itself: RESULT is NONE in RECEIVING (spec/10_state.md R20), so RES is 0. -/
theorem execPush_of_receiving {s : State} (b : Byte) (hi : s.Inv) (hp : s.phase = .receiving) :
    execPush b s = .next ((s.acceptByte b).setRes 0) := by
  have hres : (s.acceptByte b).result = .none := by simpa using hi.resultNone.2 (.inr hp)
  have hpush : execPush b s = .next (s.acceptByte b).respond := by simpa [hp] using execPush_cases s b
  rw [hpush, State.respond, hres]
  rfl

/-- Settles O27: one equation of the frame byte per clause; CNT is below RLEN, which is at most 48, so counting does
not wrap and the index stays inside the buffer. -/
theorem pushStagesCountsAndChecks : Obligations.PushStagesCountsAndChecks := by
  intro s b x
  refine ⟨decode_op32_push_append x b, fun hi hp => ?_⟩
  rw [exec_push, execPush_of_receiving b hi hp]
  refine ⟨fun hc => ?_, fun hc => ?_⟩
  · rw [acceptByte_of_full b hc]
    rfl
  · have hlt := cnt_lt_rlen_of_inv hi hc
    have hle := rlen_le_of_inv hi
    refine ⟨?_, by omega, fun hk => ?_, fun hk => ?_, fun hk => ?_⟩
    · have hnowrap : s.cnt.toNat + 1 < 2 ^ 6 := by omega
      exact BitVec.toNat_add_of_lt hnowrap
    · rw [acceptByte_of_pos_zero b hc hk]
      rfl
    · rw [acceptByte_of_pos_one b hc hk]
      rfl
    · rw [acceptByte_of_pos_two b hc hk, checkChunk_eq]
      rfl

/-! ## END of a good frame (spec/43_sequencer.md R123, R124) -/

@[simp] theorem exec_endFrame (s : State) : exec .endFrame s = execEnd s := rfl

theorem frameResult_eq_ok {s : State} (ho : s.overrun = false) (hc : s.cnt = s.rlen) (hb : s.bad = false) :
    s.frameResult = .ok := by
  simpa [ho, hc, hb] using frameResult_cases s

/-- What END writes when it validates: the snapshot as the commit leaves it, PHASE, RESULT and RES. -/
theorem execEnd_of_ok {s : State} (hp : s.phase = .receiving) (hr : s.frameResult = .ok) :
    execEnd s = .next { s with snap := (commit s).snap, phase := .validated, result := .ok, res := 1 } := by
  have hend : execEnd s = .next ((commit s).setOutcome .validated .ok).respond := by
    simpa [hp, hr] using execEnd_cases s
  rw [hend]
  exact congrArg (fun t : State => Host.Outcome.next (t.setOutcome .validated .ok).respond) (commit_eq s)

theorem payload_length_of_inv {s : State} (hi : s.Inv) : s.payload.length = destSize s.dest := by
  rw [State.payload_length, hi.fieldSize, min_eq_left (destSize_le_stgBytes s.dest)]

theorem payload_getElem? {s : State} (hi : s.Inv) {j : Nat} (hj : j < destSize s.dest) :
    s.payload[j]? = s.stg[j]? := by
  rw [State.payload, hi.fieldSize, List.getElem?_take_of_lt hj, Vector.getElem?_toList]

/-- Settles O29: the snapshot END leaves is the commit's, read inside the field and outside it. -/
theorem endOfAGoodFrameCommitsItsPayload : Obligations.EndOfAGoodFrameCommitsItsPayload := by
  intro s arg
  refine ⟨decode_op32_of_argBits_zero 0x03 arg rfl, fun hi hp ho hc hb => ?_⟩
  have hlen := payload_length_of_inv hi
  refine ⟨hi.fieldSize, destSize_le_stgBytes s.dest, (commit s).snap,
    execEnd_of_ok hp (frameResult_eq_ok ho hc hb), fun j hj => ?_, fun a ha => ?_⟩
  · rw [commit_read s _ hlen, if_pos (by omega), Nat.add_sub_cancel_left, payload_getElem? hi hj]
  · rw [commit_read s a hlen, if_neg (by omega)]

end Sys2Proof

namespace Sys2Proof
open Machine

/-! ## RES and the snapshot after reset (spec/70_reset_and_hazards.md R191) -/

theorem resOf_of_exec {i : Instr} {s t : State} (h : exec i s = .next t) : resOf i s = some t.res := by
  rw [resOf, h]

/-- `device_status` and `measured_values` have the reset fill 0xFF. -/
theorem read_reset_ones {a : Nat} (hlo : 0x42 ≤ a) (hhi : a < 88) : State.reset.snap.read a = some 0xFF := by
  have hfill : resetByte a = 0xFF := by
    rw [resetByte, if_neg (by omega), if_neg (by omega)]
    rfl
  rw [← hfill]
  exact read_reset hhi

/-! ## RD_FLAG (spec/44_fields.md R141) -/

theorem decode_op32_rdFlag_append (x : BitVec 19) (y : BitVec 2) (k : BitVec 3) :
    decode (op32 0x21 (x ++ (y ++ k))) = some (.rdFlag y k) := by
  have hbyte : BitVec.extractLsb' 3 2 (x ++ (y ++ k) : BitVec 24) = y :=
    extract_append_of_low (by decide) (extract_append_top y k)
  have hbit : BitVec.extractLsb' 0 3 (x ++ (y ++ k) : BitVec 24) = k :=
    extract_append_of_low (by decide) (extract_append_of_low (by decide) (extract_all k))
  rw [decode_op32_rdFlag, hbyte, hbit]

theorem exec_rdFlag (y : BitVec 2) (k : BitVec 3) (s : State) :
    exec (.rdFlag y k) s = .next (s.setRes (zextBool (statusFlag s.snap y k))) := rfl

theorem exec_rdFlag_of_read {s : State} {y : BitVec 2} {b : Byte} (k : BitVec 3)
    (hb : s.snap.read (0x42 + y.toNat) = some b) :
    exec (.rdFlag y k) s = .next { s with res := if b.getLsbD k.toNat then 1 else 0 } := by
  have hcell : s.snap.cell (statusAddr y) = b := cell_of_read (statusAddr y) hb
  rw [exec_rdFlag, statusFlag_eq, hcell, zextBool_eq_ite, State.setRes]

theorem and_mask_ne_zero_iff (b : Byte) (k : BitVec 3) :
    (b &&& (1#8 <<< k.toNat)) ≠ 0 ↔ b.getLsbD k.toNat = true := by
  rw [← and_mask_ne_zero, bne_iff_ne]

/-- Settles O40: the masked byte is non-zero exactly when the bit is set, and RES is that bit. -/
theorem rdFlagReturnsTheBit : Obligations.RdFlagReturnsTheBit := by
  intro s y k x b
  refine ⟨decode_op32_rdFlag_append x y k, fun hb => ⟨?_, and_mask_ne_zero_iff b k⟩⟩
  simp only [exec_rdFlag_of_read k hb, and_mask_ne_zero_iff]

/-! ## The named flags (spec/44_fields.md R142 to R148)

Each is RD_FLAG at the place the flag map gives it. -/

theorem exec_flagFanSpeedWarning (s : State) : exec .flagFanSpeedWarning s = exec (.rdFlag 1 5) s := rfl

theorem exec_flagPmError (s : State) : exec .flagPmError s = exec (.rdFlag 2 1) s := rfl

theorem exec_flagCo2Error (s : State) : exec .flagCo2Error s = exec (.rdFlag 2 1) s := rfl

theorem exec_flagGasError (s : State) : exec .flagGasError s = exec (.rdFlag 3 7) s := rfl

theorem exec_flagRhtError (s : State) : exec .flagRhtError s = exec (.rdFlag 3 6) s := rfl

theorem exec_flagFanError (s : State) : exec .flagFanError s = exec (.rdFlag 3 4) s := rfl

/-- Every bit of `device_status` is set after reset. -/
theorem resOf_rdFlag_reset (y : BitVec 2) (k : BitVec 3) : resOf (.rdFlag y k) State.reset = some 1 := by
  have hbyte : State.reset.snap.read (0x42 + y.toNat) = some 0xFF := read_reset_ones (by omega) (by omega)
  have hbit : (0xFF#8).getLsbD k.toNat = true := by
    revert k
    decide
  rw [resOf_of_exec (exec_rdFlag_of_read k hbyte)]
  exact congrArg some (if_pos hbit)

/-- Settles O41: each named flag is RD_FLAG at its place, PM and CO2 at the same one. -/
theorem namedFlagsReturnTheirBits : Obligations.NamedFlagsReturnTheirBits := by
  refine ⟨fun arg => ?_, fun s b1 b2 b3 h1 h2 h3 => ?_, fun s => ?_, fun i hi => ?_⟩
  · have noArg {sel : BitVec 8} (h : argBits sel = 0) := decode_op32_of_argBits_zero sel arg h
    exact ⟨noArg rfl, noArg rfl, noArg rfl, noArg rfl, noArg rfl, noArg rfl⟩
  · rw [exec_flagFanSpeedWarning, exec_flagPmError, exec_flagCo2Error, exec_flagGasError, exec_flagRhtError,
      exec_flagFanError]
    exact ⟨exec_rdFlag_of_read 5 h1, exec_rdFlag_of_read 1 h2, exec_rdFlag_of_read 1 h2,
      exec_rdFlag_of_read 7 h3, exec_rdFlag_of_read 6 h3, exec_rdFlag_of_read 4 h3⟩
  · rw [exec_flagPmError, exec_flagCo2Error]
  · simp only [List.mem_cons, List.not_mem_nil, or_false] at hi
    rcases hi with rfl | rfl | rfl | rfl | rfl | rfl
    exacts [resOf_rdFlag_reset 1 5, resOf_rdFlag_reset 2 1, resOf_rdFlag_reset 2 1, resOf_rdFlag_reset 3 7,
      resOf_rdFlag_reset 3 6, resOf_rdFlag_reset 3 4]

/-! ## RD_DATA_READY (spec/44_fields.md R149) -/

theorem exec_rdDataReady (s : State) : exec .rdDataReady s = .next (s.setRes (zextBool (dataReady s.snap))) := rfl

theorem dataReady_of_read {m : Memory} {b : Byte} (hb : m.read 0x41 = some b) : dataReady m = (b != 0) := by
  have hcell : m.cell readyAddr = b := cell_of_read readyAddr hb
  rw [dataReady, hcell]

theorem exec_rdDataReady_of_read {s : State} {b : Byte} (hb : s.snap.read 0x41 = some b) :
    exec .rdDataReady s = .next { s with res := if b ≠ 0x00 then 1 else 0 } := by
  simp only [exec_rdDataReady, dataReady_of_read hb, zextBool_eq_ite, bne_iff_ne, State.setRes]

/-- Settles O42: RES is the truth value of the byte at 0x41 being non-zero, and that byte is 0 after reset. -/
theorem rdDataReadyLooksAtByteOne : Obligations.RdDataReadyLooksAtByteOne := by
  refine ⟨fun s arg b => ⟨decode_op32_of_argBits_zero 0x22 arg rfl, exec_rdDataReady_of_read⟩, ?_⟩
  have hbyte : State.reset.snap.read 0x41 = some 0x00 := read_reset (by decide)
  exact resOf_of_exec (exec_rdDataReady_of_read hbyte)

/-! ## The measurement words (spec/44_fields.md R151 to R160) -/

theorem toNat_append_byte (hi lo : Byte) : (hi ++ lo : Word16).toNat = hi.toNat * 256 + lo.toNat := by
  rw [BitVec.toNat_append, ← Nat.shiftLeft_add_eq_or_of_lt lo.isLt, Nat.shiftLeft_eq]

theorem zextWord_eq_append (w : Word16) : zextWord w = 0#16 ++ w :=
  BitVec.setWidth_eq_append (by decide)

theorem toNat_zextWord (w : Word16) : (zextWord w).toNat = w.toNat :=
  BitVec.toNat_setWidth_of_le (by decide)

/-- Sign extension keeps the word in the low 16 bits. -/
theorem extract_sextWord (w : Word16) : (sextWord w).extractLsb' 0 16 = w := by
  apply BitVec.eq_of_getLsbD_eq
  intro i hi
  simp [sextWord, BitVec.getElem_signExtend, hi, show i < 32 by omega]

/-- The two's-complement reading of a 16-bit word survives sign extension. -/
theorem toInt_sextWord (w : Word16) :
    (sextWord w).toInt = if w.toNat < 32768 then (w.toNat : Int) else (w.toNat : Int) - 65536 := by
  rw [sextWord, BitVec.toInt_signExtend_of_le (by decide), BitVec.toInt_eq_toNat_cond]
  exact if_congr (show 2 * w.toNat < 2 ^ 16 ↔ w.toNat < 32768 by omega) rfl rfl

theorem measWord_of_read {m : Memory} {w : Fin 9} {hi lo : Byte} (hhi : m.read (0x46 + 2 * w.val) = some hi)
    (hlo : m.read (0x46 + 2 * w.val + 1) = some lo) : measWord m w = hi ++ lo := by
  have hhiCell : m.cell (measHiAddr w) = hi := cell_of_read (measHiAddr w) hhi
  have hloCell : m.cell (measLoAddr w) = lo := cell_of_read (measLoAddr w) hlo
  rw [measWord_eq, hhiCell, hloCell]

/-- A row (instruction, OPSEL, address) of the measurement words: it names no ARG bit, it reads word `w`, whose high
byte is at the address, and RES is the word in the reading `ext`. -/
structure ReadsWord (ext : Word16 → Word32) (row : Instr × BitVec 8 × Nat) (w : Fin 9) : Prop where
  noArg : argBits row.2.1 = 0
  decoded : decode (op32 row.2.1 0) = some row.1
  address : row.2.2 = 0x46 + 2 * w.val
  executed : ∀ s : State, exec row.1 s = .next (s.setRes (ext (measWord s.snap w)))

section
variable {ext : Word16 → Word32} {row : Instr × BitVec 8 × Nat} {w : Fin 9}

theorem ReadsWord.decode_op32 (h : ReadsWord ext row w) (arg : BitVec 24) :
    decode (op32 row.2.1 arg) = some row.1 :=
  (decode_op32_of_argBits_zero row.2.1 arg h.noArg).trans h.decoded

theorem ReadsWord.exec_of_read (h : ReadsWord ext row w) {s : State} {hi lo : Byte}
    (hhi : s.snap.read row.2.2 = some hi) (hlo : s.snap.read (row.2.2 + 1) = some lo) :
    exec row.1 s = .next { s with res := ext (hi ++ lo) } := by
  rw [h.address] at hhi hlo
  rw [h.executed, measWord_of_read hhi hlo, State.setRes]

theorem ReadsWord.resOf_reset (h : ReadsWord ext row w) : resOf row.1 State.reset = some (ext 0xFFFF) := by
  have haddr := h.address
  have hhi : State.reset.snap.read row.2.2 = some 0xFF := read_reset_ones (by omega) (by omega)
  have hlo : State.reset.snap.read (row.2.2 + 1) = some 0xFF := read_reset_ones (by omega) (by omega)
  exact resOf_of_exec (h.exec_of_read hhi hlo)

end

/-- Settles O43: the rows are words 0 to 3 and 8, zero-extended. -/
theorem unsignedMeasurementsReturnTheirWord : Obligations.UnsignedMeasurementsReturnTheirWord := by
  intro row hrow
  have ⟨w, h⟩ : ∃ w, ReadsWord zextWord row w := by
    simp only [List.mem_cons, List.not_mem_nil, or_false] at hrow
    rcases hrow with rfl | rfl | rfl | rfl | rfl
    · exact ⟨0, rfl, rfl, rfl, fun _ => rfl⟩
    · exact ⟨1, rfl, rfl, rfl, fun _ => rfl⟩
    · exact ⟨2, rfl, rfl, rfl, fun _ => rfl⟩
    · exact ⟨3, rfl, rfl, rfl, fun _ => rfl⟩
    · exact ⟨8, rfl, rfl, rfl, fun _ => rfl⟩
  refine ⟨h.decode_op32, fun s hi lo hhi hlo =>
    ⟨zextWord (hi ++ lo), h.exec_of_read hhi hlo, zextWord_eq_append _, ?_⟩, h.resOf_reset⟩
  rw [toNat_zextWord, toNat_append_byte]

/-- Settles O44: the rows are words 4 to 7, sign-extended. -/
theorem signedMeasurementsReturnTheirWord : Obligations.SignedMeasurementsReturnTheirWord := by
  intro row hrow
  have ⟨w, h⟩ : ∃ w, ReadsWord sextWord row w := by
    simp only [List.mem_cons, List.not_mem_nil, or_false] at hrow
    rcases hrow with rfl | rfl | rfl | rfl
    · exact ⟨4, rfl, rfl, rfl, fun _ => rfl⟩
    · exact ⟨5, rfl, rfl, rfl, fun _ => rfl⟩
    · exact ⟨6, rfl, rfl, rfl, fun _ => rfl⟩
    · exact ⟨7, rfl, rfl, rfl, fun _ => rfl⟩
  refine ⟨h.decode_op32, fun s hi lo hhi hlo =>
    ⟨sextWord (hi ++ lo), h.exec_of_read hhi hlo, extract_sextWord _, ?_⟩, h.resOf_reset⟩
  rw [toInt_sextWord, toNat_append_byte]
  push_cast
  rfl

end Sys2Proof

namespace Sys2Proof
open Machine

/-! ## END of a bad frame (spec/60_exceptions.md R171, R172) -/

theorem frameResult_eq_lengthError {s : State} (h : s.overrun = true ∨ s.cnt ≠ s.rlen) :
    s.frameResult = .lengthError := by
  rcases frameResult_cases s with ⟨hr, _⟩ | ⟨_, ho, hc, _⟩ | ⟨_, ho, hc, _⟩
  · exact hr
  -- the other two verdicts need OVERRUN = 0 and CNT = RLEN
  all_goals simp [ho, hc] at h

theorem frameResult_eq_checksumError {s : State} (ho : s.overrun = false) (hc : s.cnt = s.rlen) (hb : s.bad = true) :
    s.frameResult = .checksumError := by
  simpa [ho, hc, hb] using frameResult_cases s

/-- A verdict other than OK is the rejection with that cause. -/
theorem execEnd_of_cause {s : State} {k : Result} (hp : s.phase = .receiving) (hr : s.frameResult = k)
    (hk : k ≠ .ok) : execEnd s = .next (raise k s) := by
  subst hr
  rcases execEnd_cases s with ⟨_, hok, _⟩ | ⟨_, hlen, hend⟩ | ⟨_, hsum, hend⟩ | ⟨hnp, _⟩
  · exact absurd hok hk
  · rw [hend, hlen]
  · rw [hend, hsum]
  · exact absurd hp hnp

/-- Settles O28: the verdict is LENGTH_ERROR or CHECKSUM_ERROR, and the rejection writes PHASE, RESULT and RES. -/
theorem endRejectsWrongLengthThenBadChecksum : Obligations.EndRejectsWrongLengthThenBadChecksum := by
  intro s hp
  refine ⟨fun hlen => ?_, fun ho hc hb => ?_⟩
  · exact execEnd_of_cause hp (frameResult_eq_lengthError hlen) (by decide)
  · exact execEnd_of_cause hp (frameResult_eq_checksumError ho hc hb) (by decide)

/-! ## What the snapshot survives (spec/60_exceptions.md R177) -/

/-- Every instruction keeps the snapshot, but an END that validates, which commits. -/
theorem exec_snap_cases {i : Instr} {s t : State} (h : exec i s = .next t) :
    t.snap = s.snap ∨ (i = .endFrame ∧ s.phase = .receiving ∧ s.frameResult = .ok ∧
      t.phase = .validated ∧ t.snap = (commit s).snap) := by
  rcases Instr_kinds i with hq | ⟨w, hw⟩ | ⟨b, rfl⟩ | rfl | rfl
  case inl =>
    obtain ⟨v, n, hnext⟩ := exec_query s i hq
    cases hnext.symm.trans h
    exact .inl rfl
  case inr.inl =>
    rw [exec_load s i w hw] at h
    rcases execLoadCmd_cases s w with ⟨_, hnext⟩ | ⟨_, e, _, hnext⟩ | ⟨_, _, hnext⟩ <;>
      cases hnext.symm.trans h <;> exact .inl rfl
  case inr.inr.inl =>
    rcases execPush_cases s b with ⟨_, hnext⟩ | ⟨_, hnext⟩ <;> cases hnext.symm.trans h
    · exact .inl (State.acceptByte_snap s b)
    · exact .inl rfl
  case inr.inr.inr.inl =>
    rcases execEnd_cases s with ⟨hp, hr, hnext⟩ | ⟨_, _, hnext⟩ | ⟨_, _, hnext⟩ | ⟨_, hnext⟩ <;>
      cases hnext.symm.trans h
    · exact .inr ⟨rfl, hp, hr, rfl, rfl⟩
    all_goals exact .inl rfl
  case inr.inr.inr.inr =>
    rcases execAbort_cases s with ⟨_, hnext⟩ | ⟨_, hnext⟩ <;> cases hnext.symm.trans h <;> exact .inl rfl

theorem snap_eq_of_exec {i : Instr} {s t : State} (h : exec i s = .next t) (hv : t.phase ≠ .validated) :
    t.snap = s.snap := by
  rcases exec_snap_cases h with hsnap | ⟨_, _, _, hval, _⟩
  · exact hsnap
  · exact absurd hval hv

theorem runInstrs_cons_of_exec {i : Instr} {is : List Instr} {s u : State} (h : exec i s = .next u) :
    runInstrs (i :: is) s = runInstrs is u := by
  rw [runInstrs, h]

/-- A run that ends is its first instruction and then the rest. -/
theorem exec_of_runInstrs_cons {i : Instr} {is : List Instr} {s t : State} (h : runInstrs (i :: is) s = .next t) :
    ∃ u, exec i s = .next u ∧ runInstrs is u = .next t := by
  rw [runInstrs] at h
  split at h
  · exact ⟨_, ‹_›, h⟩
  all_goals cases h

/-- A run that no instruction leaves VALIDATED keeps the snapshot; where it starts is free. -/
theorem snap_eq_of_runInstrs {is : List Instr} {s t : State}
    (hv : ∀ pre u, pre <+: is → pre ≠ [] → runInstrs pre s = .next u → u.phase ≠ .validated)
    (h : runInstrs is s = .next t) : t.snap = s.snap := by
  induction is generalizing s with
  | nil =>
    cases h
    rfl
  | cons i is ih =>
    obtain ⟨u, hi, his⟩ := exec_of_runInstrs_cons h
    have hu : u.phase ≠ .validated :=
      hv [i] u (by simp) (List.cons_ne_nil _ _) (runInstrs_cons_of_exec hi)
    have htail : t.snap = u.snap := ih (fun pre v hpre _ hrun =>
      hv (i :: pre) v (List.cons_prefix_cons.2 ⟨rfl, hpre⟩) (List.cons_ne_nil _ _)
        ((runInstrs_cons_of_exec hi).trans hrun)) his
    rw [htail, snap_eq_of_exec hi hu]

/-- Settles O37: after LOAD_CMD and after every later operation the phase is RECEIVING or, at the end, REJECTED, so no
END has committed. -/
theorem rejectedExchangeLeavesTheSnapshot : Obligations.RejectedExchangeLeavesTheSnapshot := by
  intro s t w ops _ hrecv hrun hrej a
  have hsnap : t.snap = s.snap := by
    refine snap_eq_of_runInstrs (fun pre u hpre hne hu => ?_) hrun
    obtain ⟨i, pre, rfl⟩ := List.exists_cons_of_ne_nil hne
    obtain ⟨rfl, post, rfl⟩ := List.cons_prefix_cons.1 hpre
    by_cases hpost : post = []
    · subst hpost
      rw [List.append_nil] at hrun
      cases hu.symm.trans hrun
      simp [hrej]
    · simp [hrecv pre post u rfl hpost hu]
  rw [hsnap]

end Sys2Proof

namespace Sys2Proof
open Machine

/-! ## Decoding an encoded instruction (spec/30_encoding.md sections 1 and 2) -/

/-- The decoder reads back what the encoder wrote: the fields of an operation with operands are taken out again by the
layouts of R63, and without operands the word is fixed and the decoder computes. -/
theorem decode_encode (i : Instr) : decode (encode i) = some i := by
  cases i with
  | loadCmd w => rw [encode, decode_op32_loadCmd, arg_cmdw]
  | push b => rw [encode, decode_op32_push, arg_byte]
  | crcCompute w0 w1 => rw [encode, decode_op32_crcCompute, arg_pair_hi, arg_pair_lo]
  | crcVerify w0 w1 rx => rw [encode, decode_op32_crcVerify, arg_top, arg_pair_hi, arg_pair_lo]
  | rdByte a => rw [encode, decode_op32_rdByte, arg_addr]
  | rdFlag y k => rw [encode, decode_op32_rdFlag, arg_byteix, arg_bitix]
  | _ => rfl

/-- Settles O1: no check of well-formedness is needed, every instruction has its word. -/
theorem decodeOfEncodeIsTheInstruction : Obligations.DecodeOfEncodeIsTheInstruction :=
  fun i _ => decode_encode i

/-- Settles O5: each word is the encoding of the instruction beside it. -/
theorem sampleWordsDecode : Obligations.SampleWordsDecode :=
  ⟨decode_encode (.loadCmd 0xD206), decode_encode (.push 0xA2), decode_encode (.crcVerify 0xBE 0xEF 0x92),
    decode_encode (.rdFlag 1 5), decode_encode (.rdByte 0x42), decode_encode .measNox, decode_encode .getProductName⟩

/-! ## Encoding a decoded word (spec/30_encoding.md R71, R74) -/

/-- An ARG that fits its low `k` bits is zeros in front of them. -/
theorem eq_zero_append_of_lt {n k : Nat} (x : BitVec (n + k)) (h : x.toNat < 2 ^ k) :
    x = 0#n ++ x.extractLsb' 0 k := by
  apply BitVec.eq_of_toNat_eq
  simp [BitVec.toNat_append, Nat.mod_eq_of_lt h]

/-- The two lowest fields of a word, put together, are its low bits. -/
theorem extract_append_extract {n : Nat} (x : BitVec n) (k l : Nat) :
    x.extractLsb' k l ++ x.extractLsb' 0 k = x.extractLsb' 0 (l + k) :=
  BitVec.extractLsb'_append_extractLsb'_eq_extractLsb' (Nat.zero_add k).symm

/-- The operations that name ARG bits are the six with operands (R63). -/
theorem opsel_of_argBits_ne_zero (sel : BitVec 8) (h : argBits sel ≠ 0) :
    sel = 0x01 ∨ sel = 0x02 ∨ sel = 0x10 ∨ sel = 0x11 ∨ sel = 0x20 ∨ sel = 0x21 := by
  revert sel
  decide +kernel

/-- A defined OPSEL with ARG = 0 is the word of the operation it selects. -/
theorem encode_decode_opsel (sel : BitVec 8) (hsel : opselDefined sel = true) (h : argBits sel = 0) :
    (decode (op32 sel 0)).map encode = some (op32 sel 0) := by
  revert sel
  decide +kernel

theorem map_encode_decode_op32 (sel : BitVec 8) (arg : BitVec 24) (hsel : opselDefined sel = true)
    (harg : arg.toNat < 2 ^ argBits sel) : (decode (op32 sel arg)).map encode = some (op32 sel arg) := by
  by_cases h : argBits sel = 0
  · have hzero : arg = 0 := BitVec.eq_of_toNat_eq (by simpa [h] using harg)
    rw [hzero, encode_decode_opsel sel hsel h]
  · rcases opsel_of_argBits_ne_zero sel h with rfl | rfl | rfl | rfl | rfl | rfl
    · rw [decode_op32_loadCmd, Option.map_some, encode, ← eq_zero_append_of_lt (n := 8) (k := 16) arg harg]
    · rw [decode_op32_push, Option.map_some, encode, ← eq_zero_append_of_lt (n := 16) (k := 8) arg harg]
    · rw [decode_op32_crcCompute, Option.map_some, encode, extract_append_extract,
        ← eq_zero_append_of_lt (n := 8) (k := 16) arg harg]
    · rw [decode_op32_crcVerify, Option.map_some, encode, extract_append_extract,
        extract_append_extract, extract_all]
    · rw [decode_op32_rdByte, Option.map_some, encode, ← eq_zero_append_of_lt (n := 17) (k := 7) arg harg]
    · rw [decode_op32_rdFlag, Option.map_some, encode, extract_append_extract,
        ← eq_zero_append_of_lt (n := 19) (k := 5) arg harg]

theorem map_encode_decode_of_canonical (p : PortWord) (h : p.canonical = true) :
    (decode p).map encode = some p := by
  cases p with
  | op32 w =>
    obtain ⟨sel, arg, rfl⟩ := word_split w
    have hsel : BitVec.extractLsb' 24 8 (sel ++ arg : Word32) = sel := opsel_append sel arg
    have harg : BitVec.extractLsb' 0 24 (sel ++ arg : Word32) = arg :=
      (word_arg sel arg 0 24 le_rfl).trans (extract_all arg)
    simp only [PortWord.canonical, hsel, harg, Bool.and_eq_true, decide_eq_true_eq] at h
    exact map_encode_decode_op32 sel arg h.1 h.2
  | cmd16 w =>
    have hw : w ∈ commandWords := by simpa [PortWord.canonical] using h
    simp only [commandWords, List.mem_cons, List.not_mem_nil, or_false] at hw
    rcases hw with rfl | rfl | rfl | rfl | rfl | rfl | rfl | rfl | rfl | rfl | rfl <;> rfl

/-- Settles O2: a canonical word has nothing in the bits that decoding drops. -/
theorem encodeOfDecodeIsTheCanonicalWord : Obligations.EncodeOfDecodeIsTheCanonicalWord :=
  fun p h => Option.map_eq_some_iff.1 (map_encode_decode_of_canonical p h)

/-! ## Bare command words (spec/30_encoding.md R66, R67; log 2) -/

theorem commandWord_decodeCmd16 (w : Word16) : (decodeCmd16 w).commandWord = some w := by
  unfold decodeCmd16
  split
  case h_12 => rfl
  all_goals
    next hw => exact congrArg some (BitVec.eq_of_toNat_eq hw.symm)

/-- Settles O6: the instruction of a bare word loads that word, and loading is all it does. -/
theorem commandWordActsAsItsLoadCmd : Obligations.CommandWordActsAsItsLoadCmd :=
  fun w => ⟨decodeCmd16 w, rfl, commandWord_decodeCmd16 w,
    fun s => exec_load s (decodeCmd16 w) w (commandWord_decodeCmd16 w)⟩

end Sys2Proof

namespace Sys2Proof
open Machine

/-! ## Everything an instruction can do (spec/43_sequencer.md R120 to R127, spec/20_memory.md R47) -/

/-- `Effect s i t`: in the state `s` the instruction `i` leads to `t`, one constructor for each arm of the rules. -/
inductive Effect (s : State) : Instr → State → Prop
  | query {i : Instr} (hi : i.isQuery = true) (v : Word32) (n : Nat) : Effect s i { s with res := v, freeCount := n }
  | loadKnown {i : Instr} {w : Word16} {e : CatalogEntry} (hp : s.phase ≠ .receiving)
      (hi : i.commandWord = some w) (hw : lookup w = some e) : Effect s i (startExchange w e.rlen e.dest s)
  | loadUnknown {i : Instr} {w : Word16} (hp : s.phase ≠ .receiving) (hi : i.commandWord = some w)
      (hw : lookup w = none) : Effect s i (raise .unknownCommand (s.setCmdreg w))
  | loadReceiving {i : Instr} {w : Word16} (hp : s.phase = .receiving) (hi : i.commandWord = some w) :
      Effect s i (violation s)
  | stray {i : Instr} (hp : s.phase ≠ .receiving) (hi : (∃ b, i = .push b) ∨ i = .endFrame ∨ i = .abort) :
      Effect s i (violation s)
  | push (b : Byte) (hp : s.phase = .receiving) : Effect s (.push b) (s.acceptByte b).respond
  | endOk (hp : s.phase = .receiving) (hr : s.frameResult = .ok) :
      Effect s .endFrame { s with snap := (commit s).snap, phase := .validated, result := .ok, res := 1 }
  | endBad {k : Result} (hp : s.phase = .receiving) (hr : s.frameResult = k) (hk : k ≠ .ok) :
      Effect s .endFrame (raise k s)
  | abort (hp : s.phase = .receiving) : Effect s .abort (raise .transportError s)

/-- Every instruction answers a next state in every state, and these are all its effects. -/
theorem exec_effect (i : Instr) (s : State) : ∃ t, exec i s = .next t ∧ Effect s i t := by
  rcases Instr_kinds i with hq | ⟨w, hw⟩ | ⟨b, rfl⟩ | rfl | rfl
  case inl =>
    obtain ⟨v, n, hnext⟩ := exec_query s i hq
    exact ⟨_, hnext, .query hq v n⟩
  case inr.inl =>
    rw [exec_load s i w hw]
    rcases execLoadCmd_cases s w with ⟨hp, hnext⟩ | ⟨hp, e, he, hnext⟩ | ⟨hp, he, hnext⟩
    · exact ⟨_, hnext, .loadReceiving hp hw⟩
    · exact ⟨_, hnext, .loadKnown hp hw he⟩
    · exact ⟨_, hnext, .loadUnknown hp hw he⟩
  case inr.inr.inl =>
    rcases execPush_cases s b with ⟨hp, hnext⟩ | ⟨hp, hnext⟩
    · exact ⟨_, hnext, .push b hp⟩
    · exact ⟨_, hnext, .stray hp (.inl ⟨b, rfl⟩)⟩
  case inr.inr.inr.inl =>
    by_cases hp : s.phase = .receiving
    · by_cases hr : s.frameResult = .ok
      · exact ⟨_, execEnd_of_ok hp hr, .endOk hp hr⟩
      · exact ⟨_, execEnd_of_cause hp rfl hr, .endBad hp rfl hr⟩
    · exact ⟨_, if_neg hp, .stray hp (.inr (.inl rfl))⟩
  case inr.inr.inr.inr =>
    rcases execAbort_cases s with ⟨hp, hnext⟩ | ⟨hp, hnext⟩
    · exact ⟨_, hnext, .abort hp⟩
    · exact ⟨_, hnext, .stray hp (.inr (.inr rfl))⟩

theorem effect_of_exec {i : Instr} {s t : State} (h : exec i s = .next t) : Effect s i t := by
  obtain ⟨u, hu, he⟩ := exec_effect i s
  cases hu.symm.trans h
  exact he

theorem isQuery_of_commandWord {i : Instr} {w : Word16} (h : i.commandWord = some w) : i.isQuery = false := by
  cases i <;> simp [Instr.commandWord, Instr.isQuery] at h ⊢

theorem isQuery_of_frameOp {i : Instr} (h : (∃ b, i = .push b) ∨ i = .endFrame ∨ i = .abort) :
    i.isQuery = false := by
  rcases h with ⟨b, rfl⟩ | rfl | rfl <;> rfl

/-! ## Operations in a phase that does not accept them (spec/43_sequencer.md R127) -/

theorem exec_load_of_receiving {i : Instr} {s : State} (hp : s.phase = .receiving) (hi : i.commandWord ≠ none) :
    exec i s = .next (violation s) := by
  obtain ⟨w, hw⟩ := Option.ne_none_iff_exists'.1 hi
  rw [exec_load s i w hw]
  simpa [hp] using execLoadCmd_cases s w

theorem exec_stray {i : Instr} {s : State} (hp : s.phase ≠ .receiving)
    (hi : (∃ b, i = .push b) ∨ i = .endFrame ∨ i = .abort) : exec i s = .next (violation s) := by
  rcases hi with ⟨b, rfl⟩ | rfl | rfl <;> exact if_neg hp

/-- Settles O33: each is the violation, which writes PHASE, RESULT and RES. -/
theorem wrongPhaseIsAProtocolError : Obligations.WrongPhaseIsAProtocolError := by
  intro s
  rw [← violation_eq]
  exact ⟨fun hp _ hi => exec_load_of_receiving hp hi, fun hp _ hi => exec_stray hp hi⟩

/-! ## Queries (spec/20_memory.md R47) -/

/-- Settles O45: a query writes RES and the model's own counter, and no register is either. -/
theorem queriesWriteNothingButRes : Obligations.QueriesWriteNothingButRes := by
  intro i s hq
  obtain ⟨v, n, hnext⟩ := exec_query s i hq
  exact ⟨_, hnext, ⟨fun _ => rfl, rfl, rfl, rfl, rfl, rfl, rfl, rfl, rfl, rfl, rfl, rfl, rfl⟩⟩

/-- A run of queries is like one query. -/
theorem runInstrs_queries {qs : List Instr} (s : State) (hqs : ∀ q ∈ qs, q.isQuery = true) :
    ∃ v n, runInstrs qs s = .next { s with res := v, freeCount := n } := by
  induction qs generalizing s with
  | nil => exact ⟨s.res, s.freeCount, rfl⟩
  | cons q qs ih =>
    obtain ⟨hq, hqs⟩ := List.forall_mem_cons.1 hqs
    obtain ⟨v, n, hnext⟩ := exec_query s q hq
    obtain ⟨v', n', hrun⟩ := ih { s with res := v, freeCount := n } hqs
    exact ⟨v', n', (runInstrs_cons_of_exec hnext).trans hrun⟩

theorem exec_rdByte_of_read {s : State} {a : BitVec 7} {b : Byte} (hb : s.snap.read a.toNat = some b) :
    exec (.rdByte a) s = .next (s.setRes (zextByte b)) := by
  simp only [exec, execRdByte, hb]

/-- What a query answers depends neither on RES nor, where no free value is drawn, on the counter. -/
theorem resOf_query_withAnswer {i : Instr} (s : State) (v : Word32) (n : Nat) (hi : i.isQuery = true)
    (hlow : ∀ a, i = .rdByte a → a.toNat ≤ 0x57) : resOf i { s with res := v, freeCount := n } = resOf i s := by
  cases i with
  | loadCmd | push | endFrame | abort | getProductName | getSerialNumber | getDataReady | readDeviceStatus
  | readAndClearDeviceStatus | readMeasuredValues | startContinuousMeasurement | stopMeasurement | deviceReset
  | startFanCleaning | activateShtHeater => simp [Instr.isQuery] at hi
  | rdByte a =>
    have hread := s.snap.read_of_lt (Nat.lt_succ_of_le (hlow a rfl))
    have hread' : { s with res := v, freeCount := n }.snap.read a.toNat = _ := hread
    rw [resOf_of_exec (exec_rdByte_of_read hread'), resOf_of_exec (exec_rdByte_of_read hread)]
    rfl
  | _ => rfl

/-- Settles O46: the queries in between change only RES and the counter. -/
theorem repeatedQueryReturnsTheSame : Obligations.RepeatedQueryReturnsTheSame := by
  intro i qs s u hi hlow hqs hrun
  obtain ⟨v, n, hqueries⟩ := runInstrs_queries s hqs
  cases hqueries.symm.trans hrun
  exact resOf_query_withAnswer s v n hi hlow

/-! ## Frames (spec/43_sequencer.md sections 1 and 2) -/

/-- No instruction touches the port: the step took the word before. -/
theorem Effect.inputs_eq {i : Instr} {s t : State} (h : Effect s i t) : t.inputs = s.inputs := by
  cases h with
  | push b => exact State.acceptByte_inputs s b
  | _ => rfl

/-- Settles O47: only an END that validates touches the snapshot. -/
theorem everythingButEndKeepsEverySnapshotByte : Obligations.EverythingButEndKeepsEverySnapshotByte := by
  intro i s hi
  obtain ⟨t, hnext, heff⟩ := exec_effect i s
  have hsnap : t.snap = s.snap := by simpa [hi] using exec_snap_cases hnext
  exact ⟨t, hnext, fun a => by rw [hsnap], heff.inputs_eq⟩

/-- Settles O30: END commits, and the commit writes the payload at the destination's base; or it rejects and leaves
the snapshot. -/
theorem endWritesOnlyTheDestinationField : Obligations.EndWritesOnlyTheDestinationField := by
  intro s t hexec
  refine ⟨?_, fun a ha => ?_⟩
  · cases effect_of_exec hexec with
    | query hi | loadKnown _ hi | loadUnknown _ hi | loadReceiving _ hi => cases hi
    | _ => rfl
  · rcases exec_snap_cases hexec with hsnap | ⟨_, _, _, hval, hsnap⟩
    · rw [hsnap]
    · rw [hsnap, commit_read_outside s a (by simpa [hval] using ha)]

/-- Settles O36: the step ran an END that validates, and its commit fills exactly the field. -/
theorem onlyResetOrAValidatingEndChangesTheSnapshot : Obligations.OnlyResetOrAValidatingEndChangesTheSnapshot := by
  intro s t a hinv hstep hne
  rcases step_cases s with ⟨_, hnext⟩ | ⟨rest, hin, _⟩ | ⟨p, i, rest, hin, hd, hnext⟩ | ⟨_, _, _, _, hnext⟩
  · cases hnext.symm.trans hstep
    exact absurd rfl hne
  · exact .inl ⟨rest, hin⟩
  · refine .inr ?_
    have hexec := hnext.symm.trans hstep
    rcases exec_snap_cases hexec with hsnap | ⟨rfl, hp, hr, hval, hsnap⟩
    · exact absurd (congrArg (Memory.read · a) hsnap) hne
    · cases (execEnd_of_ok hp hr).symm.trans hexec
      refine ⟨⟨p, rest, hin, hd⟩, hp, rfl, rfl, ?_⟩
      by_contra hout
      refine hne (commit_read_outside s.taken a ?_)
      have hlen : s.taken.payload.length = destSize s.dest := payload_length_of_inv (s := s) hinv
      simp only [State.taken_dest, hlen]
      omega
  · cases hnext.symm.trans hstep

end Sys2Proof

namespace Sys2Proof
open Machine

/-! ## The writers of each register (spec/10_state.md sections 2 and 3)

A register that differs afterwards rules out the effects that leave it, and those that remain are its writers. -/

section
variable {i : Instr} {s t : State}

theorem Effect.cmdreg_writer (h : Effect s i t) (hne : t.cmdreg ≠ s.cmdreg) :
    s.phase ≠ .receiving ∧ i.commandWord = some t.cmdreg := by
  cases h with
  | loadKnown hp hi | loadUnknown hp hi => exact ⟨hp, hi⟩
  | push b => exact absurd (State.acceptByte_cmdreg s b) hne
  | _ => exact absurd rfl hne

theorem Effect.descriptor_writer (h : Effect s i t) (hne : t.rlen ≠ s.rlen ∨ t.dest ≠ s.dest) :
    s.phase ≠ .receiving ∧ ∃ w e, i.commandWord = some w ∧ lookup w = some e ∧ t.rlen = e.rlen ∧ t.dest = e.dest := by
  cases h with
  | loadKnown hp hi hw => exact ⟨hp, _, _, hi, hw, rfl, rfl⟩
  | push b => simp [State.respond] at hne
  | _ => exact hne.elim (absurd rfl) (absurd rfl)

/-- What one frame byte writes, register by register (spec/43_sequencer.md R122). -/
theorem acceptByte_writes (s : State) (b : Byte) :
    ((s.acceptByte b).cnt ≠ s.cnt → s.cnt ≠ s.rlen ∧ (s.acceptByte b).cnt = s.cnt + 1) ∧
    ((s.acceptByte b).hi ≠ s.hi → (s.acceptByte b).hi = b ∧ s.cnt.toNat % 3 = 0) ∧
    ((s.acceptByte b).lo ≠ s.lo → (s.acceptByte b).lo = b ∧ s.cnt.toNat % 3 = 1) ∧
    ((s.acceptByte b).stg ≠ s.stg → s.cnt ≠ s.rlen ∧ s.cnt.toNat % 3 ≠ 2) ∧
    ((s.acceptByte b).bad ≠ s.bad → (s.acceptByte b).bad = true) ∧
    ((s.acceptByte b).overrun ≠ s.overrun → (s.acceptByte b).overrun = true ∧ s.cnt = s.rlen) := by
  rcases acceptByte_cases s b with ⟨hc, h⟩ | ⟨hc, hk, h⟩ | ⟨hc, hk, h⟩ | ⟨hc, hk, h⟩ <;> rw [h]
  · simp [hc]
  · simp [hc, hk]
  · simp [hc, hk]
  · cases hbad : s.bad <;> simp [hc, State.checkChunk_bad, hbad]

theorem Effect.cnt_writer (h : Effect s i t) (hne : t.cnt ≠ s.cnt) :
    (s.phase ≠ .receiving ∧ t.cnt = 0 ∧ ∃ w, i.commandWord = some w ∧ (lookup w).isSome = true) ∨
    (s.phase = .receiving ∧ s.cnt ≠ s.rlen ∧ t.cnt = s.cnt + 1 ∧ ∃ b, i = .push b) := by
  cases h with
  | loadKnown hp hi hw => exact .inl ⟨hp, rfl, _, hi, Option.isSome_of_eq_some hw⟩
  | push b hp =>
    obtain ⟨hcnt, -⟩ := acceptByte_writes s b
    obtain ⟨hc, hinc⟩ := hcnt hne
    exact .inr ⟨hp, hc, hinc, b, rfl⟩
  | _ => exact absurd rfl hne

theorem Effect.outcome_writer (h : Effect s i t) (hne : t.phase ≠ s.phase ∨ t.result ≠ s.result) :
    i.isQuery = false := by
  cases h with
  | query => exact hne.elim (absurd rfl) (absurd rfl)
  | loadKnown _ hi | loadUnknown _ hi | loadReceiving _ hi => exact isQuery_of_commandWord hi
  | stray _ hi => exact isQuery_of_frameOp hi
  | _ => rfl

theorem Effect.hi_writer (h : Effect s i t) (hne : t.hi ≠ s.hi) :
    s.phase = .receiving ∧ i = .push t.hi ∧ s.cnt.toNat % 3 = 0 := by
  cases h with
  | push b hp =>
    obtain ⟨-, hhi, -⟩ := acceptByte_writes s b
    obtain ⟨hb, hk⟩ := hhi hne
    exact ⟨hp, congrArg Instr.push hb.symm, hk⟩
  | _ => exact absurd rfl hne

theorem Effect.lo_writer (h : Effect s i t) (hne : t.lo ≠ s.lo) :
    s.phase = .receiving ∧ i = .push t.lo ∧ s.cnt.toNat % 3 = 1 := by
  cases h with
  | push b hp =>
    obtain ⟨-, -, hlo, -⟩ := acceptByte_writes s b
    obtain ⟨hb, hk⟩ := hlo hne
    exact ⟨hp, congrArg Instr.push hb.symm, hk⟩
  | _ => exact absurd rfl hne

theorem Effect.stg_writer (h : Effect s i t) (hne : t.stg ≠ s.stg) :
    s.phase = .receiving ∧ ∃ b, i = .push b ∧ s.cnt ≠ s.rlen ∧ s.cnt.toNat % 3 ≠ 2 := by
  cases h with
  | push b hp =>
    obtain ⟨-, -, -, hstg, -⟩ := acceptByte_writes s b
    exact ⟨hp, b, rfl, hstg hne⟩
  | _ => exact absurd rfl hne

theorem Effect.bad_writer (h : Effect s i t) (hne : t.bad ≠ s.bad) :
    (t.bad = true ∧ s.phase = .receiving ∧ ∃ b, i = .push b) ∨
    (t.bad = false ∧ s.phase ≠ .receiving ∧ ∃ w, i.commandWord = some w ∧ (lookup w).isSome = true) := by
  cases h with
  | loadKnown hp hi hw => exact .inr ⟨rfl, hp, _, hi, Option.isSome_of_eq_some hw⟩
  | push b hp =>
    obtain ⟨-, -, -, -, hbad, -⟩ := acceptByte_writes s b
    exact .inl ⟨hbad hne, hp, b, rfl⟩
  | _ => exact absurd rfl hne

theorem Effect.overrun_writer (h : Effect s i t) (hne : t.overrun ≠ s.overrun) :
    (t.overrun = true ∧ s.phase = .receiving ∧ s.cnt = s.rlen ∧ ∃ b, i = .push b) ∨
    (t.overrun = false ∧ s.phase ≠ .receiving ∧ ∃ w, i.commandWord = some w ∧ (lookup w).isSome = true) := by
  cases h with
  | loadKnown hp hi hw => exact .inr ⟨rfl, hp, _, hi, Option.isSome_of_eq_some hw⟩
  | push b hp =>
    obtain ⟨-, -, -, -, -, hover⟩ := acceptByte_writes s b
    obtain ⟨htrue, hc⟩ := hover hne
    exact .inl ⟨htrue, hp, hc, b, rfl⟩
  | _ => exact absurd rfl hne

end

/-- Settles O48: the writers of each register, one lemma for each. -/
theorem eachRegisterHasOnlyItsWriters : Obligations.EachRegisterHasOnlyItsWriters := by
  intro i s t hexec
  have heff := effect_of_exec hexec
  exact ⟨heff.cmdreg_writer, heff.descriptor_writer, heff.cnt_writer, heff.outcome_writer, heff.hi_writer,
    heff.lo_writer, heff.stg_writer, heff.bad_writer, heff.overrun_writer⟩

/-! ## The phase machine (spec/43_sequencer.md section 3) -/

/-- IDLE is only ever kept: every effect but a query's leads to another phase or, in RECEIVING, keeps that one. -/
theorem Effect.phase_idle {i : Instr} {s t : State} (h : Effect s i t) (ht : t.phase = .idle) : s.phase = .idle := by
  cases h with
  | query => exact ht
  | push b => exact (State.acceptByte_phase s b).symm.trans ht
  | loadKnown | loadUnknown | loadReceiving | stray | endOk | endBad | abort => cases ht

theorem step_of_reset {s : State} {rest : List HostInput} (hin : s.inputs = .reset :: rest) :
    step s = .next (resetEvent s.taken) := by
  simp [step, hin]

/-- Settles O34: for each row the equation of the instruction it speaks of gives the next state. -/
theorem phaseMachineHasExactlyTheseTransitions : Obligations.PhaseMachineHasExactlyTheseTransitions := by
  refine ⟨fun i s hinv => ?_, fun s rest hin => ⟨_, step_of_reset hin, rfl, rfl⟩⟩
  obtain ⟨t, hnext, heff⟩ := exec_effect i s
  have of_exec {u : State} (hu : exec i s = .next u) : t = u := Host.Outcome.next.inj (hnext.symm.trans hu)
  refine ⟨t, hnext, fun hq => ?query, fun w hw hp => ⟨fun hk => ?known, fun hu => ?unknown⟩, fun w hw hp => ?reload,
    fun hi hp => ?stray, ?push, ?endFrame, ?abort, heff.phase_idle⟩
  case query =>
    obtain ⟨v, n, hq⟩ := exec_query s i hq
    rw [of_exec hq]
    exact ⟨rfl, rfl⟩
  case known =>
    obtain ⟨e, he⟩ := Option.isSome_iff_exists.1 hk
    rw [of_exec ((exec_load s i w hw).trans (execLoadCmd_of_lookup_some hp he))]
    exact ⟨rfl, rfl⟩
  case unknown =>
    rw [of_exec ((exec_load s i w hw).trans (execLoadCmd_of_lookup_none hp hu))]
    exact ⟨rfl, rfl⟩
  case reload =>
    rw [of_exec (exec_load_of_receiving hp (by simp [hw]))]
    exact ⟨rfl, rfl⟩
  case stray =>
    rw [of_exec (exec_stray hp hi)]
    exact ⟨rfl, rfl⟩
  case push =>
    rintro ⟨b, rfl⟩ hp
    rw [of_exec (execPush_of_receiving b hinv hp)]
    exact ⟨by simp [hp], by simpa using hinv.resultNone.2 (.inr hp)⟩
  case endFrame =>
    rintro rfl hp
    refine ⟨fun hlen => ?_, fun ho hc hb => ?_, fun ho hc hb => ?_⟩
    · rw [of_exec (execEnd_of_cause hp (frameResult_eq_lengthError hlen) (by decide))]
      exact ⟨rfl, rfl⟩
    · rw [of_exec (execEnd_of_cause hp (frameResult_eq_checksumError ho hc hb) (by decide))]
      exact ⟨rfl, rfl⟩
    · rw [of_exec (execEnd_of_ok hp (frameResult_eq_ok ho hc hb))]
      exact ⟨rfl, rfl⟩
  case abort =>
    rintro rfl hp
    rw [of_exec (execAbort_of_receiving hp)]
    exact ⟨rfl, rfl⟩

/-! ## Resting in REJECTED (spec/60_exceptions.md R180, R181) -/

/-- In REJECTED, without a command: a query keeps PHASE and RESULT, and anything else is a violation. -/
theorem exec_of_rejected {i : Instr} {s : State} (hp : s.phase = .rejected) (hi : i.commandWord = none) :
    ∃ t, exec i s = .next t ∧ t.phase = .rejected ∧ t.snap = s.snap ∧
      (t.result = s.result ∨ t.result = .protocolError) ∧ (i.isQuery = true → t.result = s.result) := by
  rcases Instr_kinds i with hq | ⟨w, hw⟩ | hframeOp
  · obtain ⟨v, n, hnext⟩ := exec_query s i hq
    exact ⟨_, hnext, hp, rfl, .inl rfl, fun _ => rfl⟩
  · simp [hi] at hw
  · refine ⟨_, exec_stray (by simp [hp]) hframeOp, rfl, rfl, .inr rfl, fun hq => ?_⟩
    simp [isQuery_of_frameOp hframeOp] at hq

/-- Settles O38, by induction on the operations: each leads from REJECTED to REJECTED. -/
theorem rejectionRestsUntilACommandIsLoaded : Obligations.RejectionRestsUntilACommandIsLoaded := by
  intro s ops hp hops
  induction ops generalizing s with
  | nil => exact ⟨s, rfl, hp, .inl rfl, fun _ => rfl, fun _ => rfl⟩
  | cons i is ih =>
    obtain ⟨hi, his⟩ := List.forall_mem_cons.1 hops
    obtain ⟨u, hnext, hpu, hsnap, hresult, hquery⟩ := exec_of_rejected hp hi
    obtain ⟨t, hrun, hpt, hresult', hqueries, hread⟩ := ih u hpu his
    refine ⟨t, (runInstrs_cons_of_exec hnext).trans hrun, hpt, ?_, fun hq => ?_, fun a => ?_⟩
    · rcases hresult' with h | h
      · rwa [h]
      · exact .inr h
    · obtain ⟨hqi, hqis⟩ := List.forall_mem_cons.1 hq
      rw [hqueries hqis, hquery hqi]
    · rw [hread, hsnap]

/-! ## The command words (spec/42_catalog.md sections 1 and 2) -/

theorem loadKnown_of_not_receiving {s : State} (hp : s.phase ≠ .receiving) (w : Word16) (n : BitVec 6) (d : Dest) :
    loadKnown w n d s = startExchange w n d s := if_neg hp

/-- Settles O23: the meaning of each command word is the load of its row. -/
theorem eachCommandWordLatchesItsRow : Obligations.EachCommandWordLatchesItsRow := by
  intro s hp row hrow
  have hload : exec row.1 s = .next (loadKnown row.2.1 row.2.2.1 row.2.2.2 s) := by
    simp only [List.mem_cons, List.not_mem_nil, or_false] at hrow
    rcases hrow with rfl | rfl | rfl | rfl | rfl | rfl | rfl | rfl | rfl | rfl | rfl <;> rfl
  rw [hload, loadKnown_of_not_receiving hp, startExchange_eq]

/-- The five write-only words have rows without a response. -/
theorem lookup_writeOnly {w : Word16} (hw : w ∈ [0x0021#16, 0x0104, 0xD304, 0x5607, 0x6765]) :
    ∃ e, lookup w = some e ∧ e.rlen = 0 ∧ e.dest = .none := by
  simp only [List.mem_cons, List.not_mem_nil, or_false] at hw
  rcases hw with rfl | rfl | rfl | rfl | rfl <;> exact ⟨_, rfl, rfl, rfl⟩

theorem commit_of_dest_none {s : State} (hd : s.dest = .none) : commit s = s := if_pos hd

/-- Settles O24: right after the load CNT is RLEN, both 0, so END validates, and there is no destination to write. -/
theorem writeOnlyCommandValidatesAndCommitsNothing : Obligations.WriteOnlyCommandValidatesAndCommitsNothing := by
  intro s hp w hw
  obtain ⟨e, he, hrlen, hdest⟩ := lookup_writeOnly hw
  have hload : exec (.loadCmd w) s = .next (startExchange w 0 .none s) := by
    rw [exec_loadCmd, execLoadCmd_of_lookup_some hp he, hrlen, hdest]
  have hend := execEnd_of_ok (s := startExchange w 0 .none s) rfl (frameResult_eq_ok rfl rfl rfl)
  rw [pseudoWriteOnly, runInstrs_cons_of_exec hload, runInstrs_cons_of_exec (i := .endFrame) hend,
    commit_of_dest_none rfl]
  rfl

end Sys2Proof

namespace Sys2Proof
open Machine

/-! ## The catalogue (spec/42_catalog.md R113) -/

/-- What the rows promise of their response; the invariant of the block says it of the latched descriptor. -/
theorem catalog_row {e : CatalogEntry} (he : e ∈ catalog) :
    e.rlen.toNat % 3 = 0 ∧ e.rlen.toNat * 2 / 3 = destSize e.dest ∧ (e.dest = .none ↔ e.rlen = 0) := by
  revert e
  decide

/-- Settles O22: row by row, and the eleven words are distinct. -/
theorem everyCatalogueRowFillsItsField : Obligations.EveryCatalogueRowFillsItsField :=
  ⟨fun _ => catalog_row, by decide⟩

/-! ## The invariant (spec/10_state.md section 2)

Each update of an effect keeps it. -/

section
variable {s : State}

theorem inv_withAnswer (h : s.Inv) (v : Word32) (n : Nat) : State.Inv { s with res := v, freeCount := n } :=
  { h with }

theorem inv_taken (h : s.Inv) : s.taken.Inv := { h with }

theorem inv_setCmdreg (h : s.Inv) (w : Word16) : (s.setCmdreg w).Inv := { h with }

/-- A rejection has a cause, so RESULT is neither NONE nor OK. -/
theorem inv_raise (h : s.Inv) {k : Result} (hnone : k ≠ .none) (hok : k ≠ .ok) : (raise k s).Inv :=
  { h with
    resultNone := by simp [raise_eq, hnone]
    resultOk := by simp [raise_eq, hok] }

/-- A known command latches a row of the catalogue, with no byte counted. -/
theorem inv_startExchange (h : s.Inv) {w : Word16} {e : CatalogEntry} (hw : lookup w = some e) :
    (startExchange w e.rlen e.dest s).Inv :=
  have ⟨hchunks, hfield, hnone⟩ := catalog_row (lookup_mem hw).1
  { snapWf := h.snapWf
    rlenChunks := hchunks
    destNone := hnone
    fieldSize := hfield
    cntBound := Nat.zero_le _
    resultNone := by simp [startExchange_eq]
    resultOk := by simp [startExchange_eq] }

/-- A byte is counted only below RLEN. -/
theorem acceptByte_cnt_le (h : s.cnt.toNat ≤ s.rlen.toNat) (b : Byte) :
    (s.acceptByte b).cnt.toNat ≤ s.rlen.toNat := by
  by_cases hcnt : (s.acceptByte b).cnt = s.cnt
  · rwa [hcnt]
  · obtain ⟨hc, hinc⟩ := (acceptByte_writes s b).1 hcnt
    have hlt : s.cnt.toNat < s.rlen.toNat := lt_of_le_of_ne h (mt BitVec.eq_of_toNat_eq hc)
    have hnowrap : s.cnt.toNat + 1 < 2 ^ 6 := lt_of_le_of_lt hlt s.rlen.isLt
    rw [hinc, BitVec.toNat_add_of_lt hnowrap]
    exact hlt

theorem inv_acceptByte (h : s.Inv) (b : Byte) : (s.acceptByte b).Inv where
  snapWf := by simpa using h.snapWf
  rlenChunks := by simpa using h.rlenChunks
  destNone := by simpa using h.destNone
  fieldSize := by simpa using h.fieldSize
  cntBound := by simpa using acceptByte_cnt_le h.cntBound b
  resultNone := by simpa using h.resultNone
  resultOk := by simpa using h.resultOk

theorem inv_respond (h : s.Inv) : s.respond.Inv := { h with }

theorem inv_endOk (h : s.Inv) :
    State.Inv { s with snap := (commit s).snap, phase := .validated, result := .ok, res := 1 } :=
  { h with
    snapWf := commit_wf s h.snapWf
    resultNone := by simp
    resultOk := by simp }

end

theorem inv_resetEvent (s : State) : (resetEvent s).Inv where
  snapWf := Memory.wf_nil
  rlenChunks := rfl
  destNone := iff_of_true rfl rfl
  fieldSize := by simp [resetEvent, State.reset, destSize]
  cntBound := le_rfl
  resultNone := iff_of_true rfl (.inl rfl)
  resultOk := by simp [resetEvent, State.reset]

/-- A frame has a verdict, NONE is none of them. -/
theorem frameResult_ne_none (s : State) : s.frameResult ≠ .none := by
  rcases frameResult_cases s with ⟨h, -⟩ | ⟨h, -⟩ | ⟨h, -⟩ <;> simp [h]

theorem Effect.inv {i : Instr} {s t : State} (h : Effect s i t) (hs : s.Inv) : t.Inv := by
  cases h with
  | query _ v n => exact inv_withAnswer hs v n
  | loadKnown _ _ hw => exact inv_startExchange hs hw
  | loadUnknown => exact inv_raise (inv_setCmdreg hs _) (by decide) (by decide)
  | loadReceiving => exact inv_raise hs (by decide) (by decide)
  | stray => exact inv_raise hs (by decide) (by decide)
  | push b => exact inv_respond (inv_acceptByte hs b)
  | endOk => exact inv_endOk hs
  | endBad _ hr hk => exact inv_raise hs (hr ▸ frameResult_ne_none s) hk
  | abort => exact inv_raise hs (by decide) (by decide)

/-- Settles O10: the state after reset is a state after a reset event. -/
theorem resetMeetsTheInvariant : Obligations.ResetMeetsTheInvariant := inv_resetEvent State.reset

/-- Settles O11: a step waits, resets, or runs an instruction in the state without its word, and every effect keeps
the invariant. -/
theorem stepKeepsTheInvariant : Obligations.StepKeepsTheInvariant := by
  intro s t hs hstep
  rcases step_cases s with ⟨_, hnext⟩ | ⟨_, _, hnext⟩ | ⟨_, i, _, _, _, hnext⟩ | ⟨_, _, _, _, hnext⟩
  · cases hnext.symm.trans hstep
    exact hs
  · cases hnext.symm.trans hstep
    exact inv_resetEvent s.taken
  · exact (effect_of_exec (hnext.symm.trans hstep)).inv (inv_taken hs)
  · cases hnext.symm.trans hstep

/-! ## The canonical snapshot (log 8) -/

/-- In a list with rising addresses a lookup finds exactly the cells of the list. -/
theorem lookup_eq_some_iff_mem {m : Memory} (hm : m.Pairwise (fun c d => c.1 < d.1)) (a : Nat) (b : Byte) :
    m.lookup a = some b ↔ (a, b) ∈ m := by
  induction m with
  | nil => simp
  | cons c m ih =>
    obtain ⟨k, v⟩ := c
    obtain ⟨hk, hm⟩ := List.pairwise_cons.1 hm
    have hlater : (k, b) ∉ m := fun hmem => lt_irrefl k (hk _ hmem)
    rw [Memory.lookup_cell, List.mem_cons, Prod.mk.injEq]
    by_cases h : a = k
    · subst h
      simp [hlater, eq_comm]
    · simp [h, ih hm]

/-- The cells of a canonical snapshot are the addresses that do not read as their reset fill. -/
theorem mem_iff_read {m : Memory} (hm : m.wf) (a : Nat) (b : Byte) :
    (a, b) ∈ m ↔ m.read a = some b ∧ b ≠ resetByte a := by
  obtain ⟨hrising, hcells⟩ := hm
  rw [← lookup_eq_some_iff_mem hrising]
  by_cases ha : a < 88
  · rw [Memory.read_of_lt m ha, Option.some.injEq, Memory.cell]
    cases hl : m.lookup a with
    | none =>
      refine iff_of_false (by simp) ?_
      rintro ⟨hb, hne⟩
      exact hne hb.symm
    | some c =>
      have hc := (hcells (a, c) ((lookup_eq_some_iff_mem hrising a c).1 hl)).2
      simp only [Option.getD_some, Option.some.injEq]
      exact ⟨fun h => ⟨h, h ▸ hc⟩, fun h => h.1⟩
  · rw [Memory.read_of_ge m (Nat.le_of_not_lt ha), lookup_eq_some_iff_mem hrising]
    exact iff_of_false (fun hmem => ha (hcells _ hmem).1) (by simp)

/-- Settles O12: the two lists have the same cells, and their order is the addresses'. -/
theorem snapshotsThatReadAlikeAreEqual : Obligations.SnapshotsThatReadAlikeAreEqual := by
  intro m n hm hn hread
  have hmem : ∀ c : Host.Cell, c ∈ m ↔ c ∈ n := fun ⟨a, b⟩ => by rw [mem_iff_read hm, mem_iff_read hn, hread]
  have : Std.Irrefl (fun c d : Host.Cell => c.1 < d.1) := ⟨fun c => lt_irrefl c.1⟩
  have : Std.Antisymm (fun c d : Host.Cell => c.1 < d.1) := ⟨fun c d h h' => absurd h' h.asymm⟩
  exact hm.1.eq_of_mem_iff hn.1 (by simpa using hmem)

/-! ## Steps (spec/20_memory.md R49, spec/70_reset_and_hazards.md R194) -/

/-- Settles O7: the state without its word is the state with the rest of the port. -/
theorem stepRunsTheDecodedInstruction : Obligations.StepRunsTheDecodedInstruction := by
  intro s p rest i hin hd _
  have htaken : s.taken = { s with inputs := rest } := by rw [State.taken, hin]; rfl
  simp only [step, hin, hd, htaken]

/-- Settles O8: the step asks the port first. -/
theorem emptyPortChangesNothing : Obligations.EmptyPortChangesNothing := by
  intro s hin
  simp only [step, hin]

/-! ## Reset (spec/70_reset_and_hazards.md section 1) -/

theorem read_resetEvent (s : State) {a : Nat} (ha : a < 88) : (resetEvent s).snap.read a = some (resetByte a) :=
  read_reset ha

/-- Every row of the reset table: the snapshot lists nothing, so a byte reads as the fill of its field. -/
theorem atReset_resetEvent (s : State) : (resetEvent s).AtReset where
  productName a ha := by
    rw [read_resetEvent s (by omega), resetByte, if_pos (by omega), nameFill]
  serialNumber a _ ha := by
    rw [read_resetEvent s (by omega), resetByte, if_pos ha, nameFill]
  dataReady a hlo hhi := by
    rw [read_resetEvent s (by omega), resetByte, if_neg (by omega), if_pos hhi, readyFill]
  deviceStatus a hlo hhi := read_reset_ones hlo (by omega)
  measuredValues a hlo hhi := read_reset_ones (by omega) hhi
  cmdreg := rfl
  rlen := rfl
  dest := rfl
  phase := rfl
  cnt := rfl
  result := rfl
  bad := rfl
  overrun := rfl

/-! What the host reads straight after a reset. -/

section
variable {t : State}

theorem Machine.State.AtReset.read_low (h : t.AtReset) {a : Nat} (ha : a < 0x40) : t.snap.read a = some 0x15 := by
  by_cases hname : a < 0x20
  · exact h.productName a hname
  · exact h.serialNumber a (by omega) ha

theorem Machine.State.AtReset.read_high (h : t.AtReset) {a : Nat} (hlo : 0x42 ≤ a) (hhi : a < 0x58) :
    t.snap.read a = some 0xFF := by
  by_cases hstatus : a < 0x46
  · exact h.deviceStatus a hlo hstatus
  · exact h.measuredValues a (by omega) hhi

theorem Machine.State.AtReset.statusWord_eq (h : t.AtReset) : statusWord t = 0 := by
  simp only [statusWord, h.rlen, h.dest, h.phase, h.cnt, h.result]
  rfl

theorem Machine.State.AtReset.resOf_rdFlag (h : t.AtReset) (y : BitVec 2) (k : BitVec 3) :
    resOf (.rdFlag y k) t = some 1 := by
  have hbit : (0xFF#8).getLsbD k.toNat = true := by
    revert k
    decide
  rw [resOf_of_exec (exec_rdFlag_of_read k (h.read_high (by omega) (by omega)))]
  exact congrArg some (if_pos hbit)

theorem Machine.State.AtReset.measWord_eq (h : t.AtReset) (w : Fin 9) : measWord t.snap w = 0xFFFF :=
  measWord_of_read (h.read_high (by omega) (by omega)) (h.read_high (by omega) (by omega))

theorem Machine.State.AtReset.resOf_rdByte (h : t.AtReset) (a : BitVec 7) :
    (a.toNat < 0x40 → resOf (.rdByte a) t = some 0x15) ∧
    (0x40 ≤ a.toNat → a.toNat < 0x42 → resOf (.rdByte a) t = some 0x00) ∧
    (0x42 ≤ a.toNat → a.toNat < 0x58 → resOf (.rdByte a) t = some 0xFF) :=
  ⟨fun ha => resOf_of_exec (exec_rdByte_of_read (h.read_low ha)),
    fun hlo hhi => resOf_of_exec (exec_rdByte_of_read (h.dataReady _ hlo hhi)),
    fun hlo hhi => resOf_of_exec (exec_rdByte_of_read (h.read_high hlo hhi))⟩

theorem Machine.State.AtReset.resOf_unsigned (h : t.AtReset) {i : Instr}
    (hi : i ∈ [Instr.measPm1_0, .measPm2_5, .measPm4_0, .measPm10_0, .measCo2]) : resOf i t = some 0x0000FFFF := by
  have hword : ∃ w, resOf i t = some (zextWord (measWord t.snap w)) := by
    simp only [List.mem_cons, List.not_mem_nil, or_false] at hi
    rcases hi with rfl | rfl | rfl | rfl | rfl <;> exact ⟨_, rfl⟩
  obtain ⟨w, hw⟩ := hword
  rw [hw, h.measWord_eq]
  rfl

theorem Machine.State.AtReset.resOf_signed (h : t.AtReset) {i : Instr}
    (hi : i ∈ [Instr.measHumidity, .measTemperature, .measVoc, .measNox]) : resOf i t = some 0xFFFFFFFF := by
  have hword : ∃ w, resOf i t = some (sextWord (measWord t.snap w)) := by
    simp only [List.mem_cons, List.not_mem_nil, or_false] at hi
    rcases hi with rfl | rfl | rfl | rfl <;> exact ⟨_, rfl⟩
  obtain ⟨w, hw⟩ := hword
  rw [hw, h.measWord_eq]
  rfl

theorem Machine.State.AtReset.resOf_flag (h : t.AtReset) {i : Instr}
    (hi : i ∈ [Instr.flagFanSpeedWarning, .flagPmError, .flagCo2Error, .flagGasError, .flagRhtError,
      .flagFanError]) : resOf i t = some 1 := by
  have hflag : ∃ y k, resOf i t = resOf (.rdFlag y k) t := by
    simp only [List.mem_cons, List.not_mem_nil, or_false] at hi
    rcases hi with rfl | rfl | rfl | rfl | rfl | rfl <;> exact ⟨_, _, rfl⟩
  obtain ⟨y, k, hk⟩ := hflag
  rw [hk, h.resOf_rdFlag]

end

/-- Settles O9: the reset table at reset and after a reset event, and from the table alone what each operation
reads. -/
theorem resetGivesTheStateOfTheSpec : Obligations.ResetGivesTheStateOfTheSpec := by
  refine ⟨atReset_resetEvent State.reset, fun s rest hin => ⟨_, step_of_reset hin, atReset_resetEvent _, ?_⟩,
    fun t h => ⟨?_, ?_, fun _ => h.resOf_flag, fun _ => h.resOf_unsigned, fun _ => h.resOf_signed, h.resOf_rdByte⟩⟩
  · exact congrArg List.tail hin
  · rw [resOf_of_exec (exec_rdStatus t), State.setRes_res, h.statusWord_eq]
  · exact resOf_of_exec (exec_rdDataReady_of_read (h.dataReady 0x41 (by decide) (by decide)))

/-! ## RD_BYTE (spec/44_fields.md R140) -/

theorem exec_rdByte_of_unmapped {s : State} {a : BitVec 7} (ha : s.snap.read a.toNat = none) :
    exec (.rdByte a) s = .next (s.drawFree.setRes (zextByte (Config.freeByte s.freeCount))) := by
  simp only [exec, execRdByte, ha]

/-- Settles O39: below 0x58 the byte of the cell, above it a free value. -/
theorem rdByteReturnsTheSnapshotByte : Obligations.RdByteReturnsTheSnapshotByte := by
  intro s addr x
  refine ⟨?_, fun ha => ?_, fun ha => ?_⟩
  · rw [decode_op32_rdByte, extract_append_low x addr 0 7 (by decide), extract_all]
  · have hread := s.snap.read_of_lt (Nat.lt_succ_of_le ha)
    refine ⟨_, hread, ?_⟩
    rw [exec_rdByte_of_read hread, zextByte_eq_append, State.setRes]
  · have hread := s.snap.read_of_ge ha
    refine ⟨hread, Config.freeByte s.freeCount, ?_⟩
    rw [exec_rdByte_of_unmapped hread, zextByte_eq_append, State.setRes, State.drawFree]

/-! ## The Timing Compensator (spec/70_reset_and_hazards.md R200, R201) -/

/-- A right shift is the division by the power of two. -/
theorem compensate_eq (base shift : Nat) : compensate base shift = base + base / 2 ^ shift := by
  rw [compensate, Nat.shiftRight_eq_div_pow]

/-- Settles O50: the formula for all inputs, the examples and the table by computation. -/
theorem compensatorPadsByItsShift : Obligations.CompensatorPadsByItsShift := by
  refine ⟨fun base shift => ⟨compensate_eq base shift, ?_⟩, rfl, rfl, rfl, by decide⟩
  rw [compensate_eq, Nat.zero_div]

end Sys2Proof

namespace Sys2Proof
open Machine

/-! ## The checksum loop is linear (spec/40_checksum.md R81, R86) -/

theorem crcShift_eq (c : Byte) : crcShift c = (c <<< 1) ^^^ (if c.msb then crcPoly else 0#8) := by
  unfold crcShift
  split <;> simp [*]

/-- One turn of the loop takes an exclusive or to an exclusive or. -/
theorem crcShift_xor (x y : Byte) : crcShift (x ^^^ y) = crcShift x ^^^ crcShift y := by
  have hpoly : (if (x ^^^ y).msb then crcPoly else 0#8) =
      (if x.msb then crcPoly else 0#8) ^^^ (if y.msb then crcPoly else 0#8) := by
    rw [BitVec.msb_xor]
    cases x.msb <;> cases y.msb <;> simp
  rw [crcShift_eq, crcShift_eq, crcShift_eq, hpoly, BitVec.shiftLeft_xor_distrib]
  ac_rfl

theorem crcShifts_xor (n : Nat) (x y : Byte) : crcShifts n (x ^^^ y) = crcShifts n x ^^^ crcShifts n y := by
  induction n generalizing x y with
  | zero => rfl
  | succ n ih => simp only [crcShifts, crcShift_xor, ih]

/-! ## The loop and the bit-serial form (spec/40_checksum.md section 1) -/

theorem crcShifts_eq_iterate (n : Nat) (c : Byte) : crcShifts n c = crcShift^[n] c := by
  induction n generalizing c with
  | zero => rfl
  | succ n ih => rw [crcShifts, ih, Function.iterate_succ_apply]

theorem crcShift_eq_loop :
    crcShift = fun x : Byte => if x.getLsbD 7 then (x <<< 1) ^^^ 0x31#8 else x <<< 1 := rfl

/-- One turn of the bit-serial form: bit `k` of `b` meets the top bit of the register. -/
def serialTurn (b x : Byte) (k : Nat) : Byte :=
  (x <<< 1) ^^^ (if Bool.xor (x.getLsbD 7) (b.getLsbD k) then 0x31#8 else 0x00#8)

/-- With the byte's remaining bits shifted to the top, one turn of the loop on the exclusive or is one serial turn on
the register, and one bit of the byte is used up. -/
theorem crcShift_xor_shiftLeft (b x : Byte) (n : Nat) (hn : n < 8) :
    crcShift (x ^^^ (b <<< (7 - n))) = serialTurn b x n ^^^ (b <<< (8 - n)) := by
  have htop : (b <<< (7 - n)).msb = b.getLsbD n := by
    have hsub : 7 - (7 - n) = n := by omega
    rw [BitVec.msb_eq_getLsbD_last, BitVec.getLsbD_shiftLeft, hsub]
    simp
  have hshift : b <<< (7 - n) <<< 1 = b <<< (8 - n) := by
    rw [← BitVec.shiftLeft_add, show 7 - n + 1 = 8 - n by omega]
  rw [crcShift_eq, BitVec.shiftLeft_xor_distrib, BitVec.msb_xor, htop, hshift, BitVec.msb_eq_getLsbD_last, serialTurn,
    BitVec.xor_assoc, BitVec.xor_comm (b <<< (8 - n)), ← BitVec.xor_assoc]
  rfl

/-- The loop on the exclusive or runs the bit-serial form over the bits that are left, highest first. -/
theorem crcShifts_xor_shiftLeft (b x : Byte) (n : Nat) (hn : n ≤ 8) :
    crcShifts n (x ^^^ (b <<< (8 - n))) = (List.range n).reverse.foldl (serialTurn b) x := by
  induction n generalizing x with
  | zero => simp [crcShifts]
  | succ n ih =>
    rw [crcShifts, show 8 - (n + 1) = 7 - n by omega, crcShift_xor_shiftLeft b x n hn, ih _ (by omega),
      List.range_succ, List.reverse_append]
    rfl

/-- Settles O13: the loop by definition, the bit-serial form with all eight bits left. -/
theorem crcByteIsTheLoopAndTheBitSerialForm : Obligations.CrcByteIsTheLoopAndTheBitSerialForm := by
  intro c b
  refine ⟨?_, ?_⟩
  · rw [← crcShift_eq_loop, ← crcShifts_eq_iterate, crcByte]
  · have hserial := crcShifts_xor_shiftLeft b c 8 le_rfl
    rw [Nat.sub_self, BitVec.shiftLeft_zero] at hserial
    exact hserial

/-! ## Bijectivity and affinity (spec/40_checksum.md R86) -/

/-- A turn loses nothing: only 0 is shifted to 0. -/
theorem crcShift_eq_zero (x : Byte) (h : crcShift x = 0#8) : x = 0#8 := by
  revert x
  decide +kernel

theorem crcShift_injective : Function.Injective crcShift := by
  intro x y h
  refine BitVec.xor_eq_zero_iff.1 (crcShift_eq_zero _ ?_)
  rw [crcShift_xor, h, BitVec.xor_self]

theorem crcShifts_injective (n : Nat) : Function.Injective (crcShifts n) := by
  rw [funext (crcShifts_eq_iterate n)]
  exact crcShift_injective.iterate n

theorem crcByte_bijective_right (c : Byte) : Function.Bijective (crcByte c) :=
  Finite.injective_iff_bijective.1 fun _ _ h => (BitVec.xor_right_inj c).1 (crcShifts_injective 8 h)

theorem crcByte_bijective_left (b : Byte) : Function.Bijective (crcByte · b) :=
  Finite.injective_iff_bijective.1 fun _ _ h => (BitVec.xor_left_inj b).1 (crcShifts_injective 8 h)

/-- `crc8` of a pair of masks without the initial value: what they change in the checksum of any word. -/
def crcChange (x y : Byte) : Byte := crcByte (crcByte 0#8 x) y

theorem crcByte_xor (c d b x : Byte) : crcByte (c ^^^ d) (b ^^^ x) = crcByte c b ^^^ crcByte d x := by
  rw [crcByte, crcByte, crcByte, ← crcShifts_xor]
  congr 1
  ac_rfl

theorem crc8_xor (a b x y : Byte) : crc8 (a ^^^ x) (b ^^^ y) = crc8 a b ^^^ crcChange x y := by
  have hinner := crcByte_xor crcInit 0#8 a x
  rw [BitVec.xor_zero] at hinner
  rw [crc8, hinner, crcByte_xor, crc8, crcChange]

/-- Settles O15: bijective because each turn is, affine because each turn is linear. -/
theorem checksumIsBijectiveInEachByteAndAffine : Obligations.ChecksumIsBijectiveInEachByteAndAffine := by
  refine ⟨fun hi => crcByte_bijective_right _, fun lo => ?_, fun a b x y a' b' => ?_⟩
  · exact (crcByte_bijective_left lo).comp (crcByte_bijective_right crcInit)
  · have hchange (c d : Byte) : crc8 (c ^^^ x) (d ^^^ y) ^^^ crc8 c d = crcChange x y := by
      rw [crc8_xor, BitVec.xor_comm (crc8 c d), BitVec.xor_assoc, BitVec.xor_self, BitVec.xor_zero]
    rw [hchange, hchange]

/-! ## One-bit and two-bit changes (spec/40_checksum.md R86) -/

/-- The syndrome of a 24-bit mask over a chunk: what it changes in the comparison of the checksums. -/
def syndrome (v : BitVec 24) : Byte :=
  crcChange (v.extractLsb' 16 8) (v.extractLsb' 8 8) ^^^ v.extractLsb' 0 8

theorem syndrome_append (x y z : Byte) : syndrome (x ++ (y ++ z)) = crcChange x y ^^^ z := by
  rw [syndrome, arg_top, arg_pair_hi, arg_pair_lo]

theorem syndrome_xor (u v : BitVec 24) : syndrome (u ^^^ v) = syndrome u ^^^ syndrome v := by
  have hzero (x y : Byte) : crcByte 0#8 (x ^^^ y) = crcByte 0#8 x ^^^ crcByte 0#8 y := crcByte_xor 0#8 0#8 x y
  simp only [syndrome, crcChange, BitVec.extractLsb'_xor, hzero, crcByte_xor]
  ac_rfl

/-- A valid chunk stays valid under a mask exactly when the mask's syndrome is 0. -/
theorem verify_xor {hi lo rx : Byte} (hv : verify hi lo rx = true) (x y z : Byte) :
    verify (hi ^^^ x) (lo ^^^ y) (rx ^^^ z) = false ↔ syndrome (x ++ (y ++ z)) ≠ 0#8 := by
  rw [verify_eq_true_iff] at hv
  rw [verify_eq_false_iff, crc8_xor, hv, syndrome_append, Ne, BitVec.xor_right_inj, Ne, BitVec.xor_eq_zero_iff]

/-- The columns of the code: the 24 one-bit syndromes are not 0 and differ from each other. -/
theorem syndrome_bit_ne_zero {j : Nat} (hj : j < 24) : syndrome (1#24 <<< j) ≠ 0#8 := by
  revert j
  decide +kernel

theorem syndrome_bit_injective {j k : Nat} (hj : j < 24) (hk : k < 24)
    (h : syndrome (1#24 <<< j) = syndrome (1#24 <<< k)) : j = k := by
  have hcolumns : ∀ j < 24, ∀ k < 24, syndrome (1#24 <<< j) = syndrome (1#24 <<< k) → j = k := by decide +kernel
  exact hcolumns j hj k hk h

/-- Settles O16: one bit has a column for its syndrome, two bits the sum of two different columns. -/
theorem oneAndTwoBitChangesOfAChunkAreDetected : Obligations.OneAndTwoBitChangesOfAChunkAreDetected := by
  intro hi lo rx j k x y z hv hj hk hmask
  rw [verify_xor hv]
  rcases hmask with hone | ⟨hne, htwo⟩
  · rw [hone]
    exact syndrome_bit_ne_zero hj
  · rw [htwo, syndrome_xor, Ne, BitVec.xor_eq_zero_iff]
    exact fun h => hne (syndrome_bit_injective hj hk h)

end Sys2Proof

namespace Sys2Proof
open Machine

/-! ## The frame encoder (spec/41_frame_decoder.md R97)

A pair of payload bytes becomes a chunk; a last byte without a partner is dropped, so only `decodeChunks_encodeFrame`
needs an even length. -/

theorem length_div_two_of_not_pair {p : List Byte} (hshort : ∀ hi lo rest, p = hi :: lo :: rest → False) :
    p.length / 2 = 0 := by
  match p with
  | [] | [_] => simp
  | _ :: _ :: _ => exact (hshort _ _ _ rfl).elim

theorem length_encodeFrame (p : List Byte) : (encodeFrame p).length = p.length / 2 * 3 := by
  induction p using encodeFrame.induct with
  | case1 hi lo rest ih =>
    simp only [encodeFrame, List.length_cons, ih]
    omega
  | case2 p hshort => simp [encodeFrame, length_div_two_of_not_pair hshort]

/-- Chunk `i` holds pair `i` and its checksum. -/
theorem getD_encodeFrame (p : List Byte) (i : Nat) (hi : i < p.length / 2) :
    (encodeFrame p).getD (3 * i) 0 = p.getD (2 * i) 0 ∧
    (encodeFrame p).getD (3 * i + 1) 0 = p.getD (2 * i + 1) 0 ∧
    (encodeFrame p).getD (3 * i + 2) 0 = crc8 (p.getD (2 * i) 0) (p.getD (2 * i + 1) 0) := by
  induction p using encodeFrame.induct generalizing i with
  | case1 hi lo rest ih =>
    match i with
    | 0 => exact ⟨rfl, rfl, rfl⟩
    | i + 1 => exact ih i (by simp only [List.length_cons] at hi; omega)
  | case2 p hshort => simp [length_div_two_of_not_pair hshort] at hi

theorem decodeChunks_encodeFrame (p : List Byte) (hp : p.length % 2 = 0) : decodeChunks (encodeFrame p) = some p := by
  induction p using encodeFrame.induct with
  | case1 hi lo rest ih =>
    have hrest : decodeChunks (encodeFrame rest) = some rest := ih (by simp only [List.length_cons] at hp; omega)
    have hv : verify hi lo (crc8 hi lo) = true := (verify_eq_true_iff hi lo _).2 rfl
    simp [encodeFrame, decodeChunks, hv, hrest]
  | case2 p hshort =>
    have hnil : p = [] := by
      have := length_div_two_of_not_pair hshort
      exact List.eq_nil_of_length_eq_zero (by omega)
    rw [hnil]
    rfl

/-- A chunk whose checksum byte was replaced is verified against the new one. -/
theorem chunkVerified_set (f : List Byte) (i : Nat) (c : Byte) (hi : 3 * i + 2 < f.length) :
    chunkVerified (f.set (3 * i + 2) c) i = verify (f.getD (3 * i) 0) (f.getD (3 * i + 1) 0) c := by
  simp [chunkVerified, hi]

/-- Settles O20: one wrong checksum byte makes its chunk fail, and the length is that of whole chunks. -/
theorem encodedFrameDecodesBackAndOneBadChecksumRejects :
    Obligations.EncodedFrameDecodesBackAndOneBadChecksumRejects := by
  intro p hp
  have hlen := length_encodeFrame p
  refine ⟨hlen, getD_encodeFrame p, ?_, fun i c hi hc => ?_⟩
  · exact (decodeFrame_eq_ok_iff _ p).2 ⟨by omega, decodeChunks_encodeFrame p hp⟩
  · obtain ⟨hhi, hlo, hsum⟩ := getD_encodeFrame p i hi
    refine (decodeFrame_eq_checksumError_iff _).2 ⟨?_, (decodeChunks_eq_none_iff _).2 ⟨i, ?_, ?_⟩⟩
    · rw [List.length_set]
      omega
    · rw [List.length_set]
      omega
    · rw [chunkVerified_set _ _ _ (by omega), verify_eq_false_iff, hhi, hlo, ← hsum]
      exact hc.symm

end Sys2Proof

namespace Sys2Proof
open Machine

/-! ## The accepted bytes of a frame (spec/43_sequencer.md R122)

What CNT, HI, LO, BAD and STG hold once the bytes `g` have been counted, and that the next byte keeps it so. -/

/-- `s` has counted the bytes `g`: the open chunk is in HI and LO, the data bytes are in STG, and BAD says whether a
whole chunk failed. -/
structure Accepted (g : List Byte) (s : State) : Prop where
  cnt : s.cnt.toNat = g.length
  hi : g.length % 3 ≠ 0 → s.hi = g.getD (3 * (g.length / 3)) 0
  lo : g.length % 3 = 2 → s.lo = g.getD (3 * (g.length / 3) + 1) 0
  bad : s.bad = true ↔ ∃ i < g.length / 3, chunkVerified g i = false
  staged : ∀ k < g.length, k % 3 ≠ 2 → s.stg[k / 3 * 2 + k % 3]? = g[k]?

theorem getD_append_singleton_of_lt {g : List Byte} {k : Nat} (hk : k < g.length) (b : Byte) :
    (g ++ [b]).getD k 0 = g.getD k 0 := List.getD_append g [b] 0 k hk

theorem getD_append_singleton_length {g : List Byte} {k : Nat} (hk : k = g.length) (b : Byte) :
    (g ++ [b]).getD k 0 = b := by
  simp [hk]

/-- The whole chunks of a frame do not see a byte that comes after them. -/
theorem chunkVerified_append {g : List Byte} {i : Nat} (hi : i < g.length / 3) (b : Byte) :
    chunkVerified (g ++ [b]) i = chunkVerified g i := by
  rw [chunkVerified, getD_append_singleton_of_lt (by omega), getD_append_singleton_of_lt (by omega),
    getD_append_singleton_of_lt (by omega), chunkVerified]

/-- A byte that does not end a chunk leaves the whole chunks as they are. -/
theorem exists_bad_chunk_append {g : List Byte} (hg : g.length % 3 ≠ 2) (b : Byte) :
    (∃ i < (g ++ [b]).length / 3, chunkVerified (g ++ [b]) i = false) ↔
      ∃ i < g.length / 3, chunkVerified g i = false := by
  have hchunks : (g ++ [b]).length / 3 = g.length / 3 := by
    rw [List.length_append, List.length_singleton]
    omega
  rw [hchunks]
  exact exists_congr fun i => and_congr_right fun hi => by rw [chunkVerified_append hi]

/-- A checksum byte ends a chunk, which is verified with the two bytes before it. -/
theorem exists_bad_chunk_append_checksum {g : List Byte} (hg : g.length % 3 = 2) (b : Byte) :
    (∃ i < (g ++ [b]).length / 3, chunkVerified (g ++ [b]) i = false) ↔
      (∃ i < g.length / 3, chunkVerified g i = false) ∨
        verify (g.getD (3 * (g.length / 3)) 0) (g.getD (3 * (g.length / 3) + 1) 0) b = false := by
  have hchunks : (g ++ [b]).length / 3 = g.length / 3 + 1 := by
    rw [List.length_append, List.length_singleton]
    omega
  have hlast : chunkVerified (g ++ [b]) (g.length / 3) =
      verify (g.getD (3 * (g.length / 3)) 0) (g.getD (3 * (g.length / 3) + 1) 0) b := by
    rw [chunkVerified, getD_append_singleton_of_lt (by omega), getD_append_singleton_of_lt (by omega),
      getD_append_singleton_length (by omega)]
  rw [hchunks, Nat.exists_lt_succ_right, hlast]
  exact or_congr_left (exists_congr fun i => and_congr_right fun hi => by rw [chunkVerified_append hi])

/-- A data byte is staged behind the data bytes before it. -/
theorem staged_append_data {g : List Byte} {stg : Vector Byte 32}
    (h : ∀ k < g.length, k % 3 ≠ 2 → stg[k / 3 * 2 + k % 3]? = g[k]?) (hfit : g.length < 48) (b : Byte)
    (k : Nat) (hk : k < (g ++ [b]).length) (hk2 : k % 3 ≠ 2) :
    (stg.setIfInBounds (g.length / 3 * 2 + g.length % 3) b)[k / 3 * 2 + k % 3]? = (g ++ [b])[k]? := by
  rw [List.length_append, List.length_singleton] at hk
  rw [Vector.getElem?_setIfInBounds]
  by_cases hlast : k = g.length
  · rw [if_pos (by rw [hlast]), if_pos (by omega), hlast, List.getElem?_concat_length]
  · rw [if_neg (by omega), h k (by omega) hk2, List.getElem?_append_left (by omega)]

theorem Accepted.acceptByte {g : List Byte} {s : State} (h : Accepted g s) (hc : s.cnt ≠ s.rlen)
    (hfit : g.length < 48) (b : Byte) : Accepted (g ++ [b]) (s.acceptByte b) := by
  have hlen : (g ++ [b]).length = g.length + 1 := by simp
  have hcnt : (s.cnt + 1).toNat = (g ++ [b]).length := by
    have hnowrap : s.cnt.toNat + 1 < 2 ^ 6 := by rw [h.cnt]; omega
    rw [hlen, ← h.cnt]
    exact BitVec.toNat_add_of_lt hnowrap
  rcases acceptByte_cases s b with ⟨hfull, _⟩ | ⟨_, hk, heq⟩ | ⟨_, hk, heq⟩ | ⟨_, hk, heq⟩
  case inl => exact absurd hfull hc
  all_goals rw [h.cnt] at hk
  case inr.inl =>
    rw [heq]
    refine ⟨hcnt, fun _ => ?_, fun _ => by omega, ?_, ?_⟩
    · exact (getD_append_singleton_length (by omega) b).symm
    · exact h.bad.trans (exists_bad_chunk_append (by omega) b).symm
    · rw [State.countByte_stg, State.stageHi_stg, h.cnt]
      simpa [hk] using staged_append_data h.staged hfit b
  case inr.inr.inl =>
    rw [heq]
    refine ⟨hcnt, fun _ => ?_, fun _ => ?_, ?_, ?_⟩
    · have hopen : 3 * ((g ++ [b]).length / 3) = 3 * (g.length / 3) := by omega
      rw [hopen, getD_append_singleton_of_lt (by omega)]
      exact h.hi (by omega)
    · exact (getD_append_singleton_length (by omega) b).symm
    · exact h.bad.trans (exists_bad_chunk_append (by omega) b).symm
    · rw [State.countByte_stg, State.stageLo_stg, h.cnt]
      simpa [hk] using staged_append_data h.staged hfit b
  case inr.inr.inr =>
    rw [heq]
    refine ⟨by simpa using hcnt, fun _ => by omega, fun _ => by omega, ?_, fun k hk' hk2 => ?_⟩
    · rw [exists_bad_chunk_append_checksum hk, ← h.hi (by omega), ← h.lo hk, ← h.bad]
      simp [State.checkChunk_bad]
    · have hbefore : k < g.length := by omega
      rw [State.countByte_stg, State.checkChunk_stg, h.staged k hbefore hk2, List.getElem?_append_left hbefore]

/-! ## An exchange in progress

`Received e m f s`: the exchange of the catalogue row `e`, begun with the snapshot `m`, has been given the bytes `f`. -/

/-- The first RLEN bytes are accepted; OVERRUN says whether there were more. -/
structure Received (e : CatalogEntry) (m : Memory) (f : List Byte) (s : State) : Prop where
  row : e ∈ catalog
  phase : s.phase = .receiving
  cmdreg : s.cmdreg = e.word
  rlen : s.rlen = e.rlen
  dest : s.dest = e.dest
  snap : s.snap = m
  accepted : Accepted (f.take e.rlen.toNat) s
  overrun : s.overrun = decide (e.rlen.toNat < f.length)

section
variable {e : CatalogEntry} {m : Memory} {f : List Byte} {s : State}

theorem received_startExchange {w : Word16} (hw : lookup w = some e) :
    Received e s.snap [] (startExchange w e.rlen e.dest s) where
  row := (lookup_mem hw).1
  phase := rfl
  cmdreg := (lookup_mem hw).2.symm
  rlen := rfl
  dest := rfl
  snap := rfl
  accepted := ⟨by simp [startExchange_eq], by simp, by simp, by simp [startExchange_eq], by simp⟩
  overrun := rfl

theorem Received.withAnswer (h : Received e m f s) (v : Word32) (n : Nat) :
    Received e m f { s with res := v, freeCount := n } :=
  { h with accepted := { h.accepted with } }

theorem Received.cnt (h : Received e m f s) : s.cnt.toNat = min f.length e.rlen.toNat := by
  rw [h.accepted.cnt, List.length_take, min_comm]

/-- A response is at most 48 bytes, the size of the largest field with its checksums. -/
theorem catalog_rlen_le (he : e ∈ catalog) : e.rlen.toNat ≤ 48 := by
  obtain ⟨hchunks, hfield, -⟩ := catalog_row he
  have hsize := destSize_le_stgBytes e.dest
  omega

theorem Received.cnt_eq_rlen_iff (h : Received e m f s) : s.cnt = s.rlen ↔ e.rlen.toNat ≤ f.length := by
  rw [h.rlen, ← BitVec.toNat_inj, h.cnt]
  omega

/-- OVERRUN is set by a byte beyond RLEN and kept otherwise (spec/10_state.md R24). -/
theorem acceptByte_overrun (s : State) (b : Byte) :
    (s.acceptByte b).overrun = (s.overrun || decide (s.cnt = s.rlen)) := by
  rcases acceptByte_cases s b with ⟨hc, h⟩ | ⟨hc, _, h⟩ | ⟨hc, _, h⟩ | ⟨hc, _, h⟩ <;> simp [h, hc]

/-- A byte within RLEN is accepted, one beyond it is not among the first RLEN bytes. -/
theorem Received.accepted_acceptByte (h : Received e m f s) (b : Byte) :
    Accepted ((f ++ [b]).take e.rlen.toNat) (s.acceptByte b) := by
  by_cases hc : s.cnt = s.rlen
  · rw [acceptByte_of_full b hc, List.take_append_of_le_length (h.cnt_eq_rlen_iff.1 hc)]
    exact { h.accepted with }
  · have hroom : f.length < e.rlen.toNat := Nat.lt_of_not_le (mt h.cnt_eq_rlen_iff.2 hc)
    have haccepted : Accepted f s := List.take_of_length_le hroom.le ▸ h.accepted
    rw [List.take_of_length_le (by simpa using hroom)]
    exact haccepted.acceptByte hc (hroom.trans_le (catalog_rlen_le h.row)) b

theorem Received.push (h : Received e m f s) (b : Byte) : Received e m (f ++ [b]) (s.acceptByte b).respond where
  row := h.row
  phase := (State.acceptByte_phase s b).trans h.phase
  cmdreg := (State.acceptByte_cmdreg s b).trans h.cmdreg
  rlen := (State.acceptByte_rlen s b).trans h.rlen
  dest := (State.acceptByte_dest s b).trans h.dest
  snap := (State.acceptByte_snap s b).trans h.snap
  accepted := { h.accepted_acceptByte b with }
  overrun := by
    have hover := acceptByte_overrun s b
    rw [h.overrun, ← Bool.decide_or] at hover
    refine hover.trans (decide_eq_decide.2 ?_)
    rw [h.cnt_eq_rlen_iff, List.length_append, List.length_singleton]
    omega

/-! ## The end of an exchange (spec/43_sequencer.md R123, R128) -/

/-- How an exchange of the row `e` with the frame `f` ends: the length test against the latched length, then
`decode_frame`. -/
def exchangeResult (e : CatalogEntry) (f : List Byte) : Result :=
  if f.length ≠ e.rlen.toNat then .lengthError
  else
    match decodeFrame f with
    | .ok _ => .ok
    | .checksumError => .checksumError
    | .lengthError => .lengthError

theorem exchangeResult_of_length_ne (h : f.length ≠ e.rlen.toNat) : exchangeResult e f = .lengthError := if_pos h

theorem exchangeResult_of_checksumError (h : f.length = e.rlen.toNat) (hd : decodeFrame f = .checksumError) :
    exchangeResult e f = .checksumError := by
  simp [exchangeResult, h, hd]

theorem exchangeResult_of_ok {p : List Byte} (h : f.length = e.rlen.toNat) (hd : decodeFrame f = .ok p) :
    exchangeResult e f = .ok := by
  simp [exchangeResult, h, hd]

theorem length_of_exchangeResult_ok (h : exchangeResult e f = .ok) : f.length = e.rlen.toNat := by
  by_contra hlen
  simp [exchangeResult_of_length_ne hlen] at h

/-- A frame that `decode_frame` rejects for its length never has a latched length (spec/42_catalog.md R113). -/
theorem length_ne_of_lengthError (he : e ∈ catalog) (hd : decodeFrame f = .lengthError) :
    f.length ≠ e.rlen.toNat := by
  obtain ⟨hchunks, -⟩ := catalog_row he
  have hlen := (decodeFrame_eq_lengthError_iff f).1 hd
  omega

theorem Received.frameResult_eq (h : Received e m f s) : s.frameResult = exchangeResult e f := by
  by_cases hlen : f.length = e.rlen.toNat
  · have hover : s.overrun = false := by rw [h.overrun, decide_eq_false (by omega)]
    have hcnt : s.cnt = s.rlen := h.cnt_eq_rlen_iff.2 hlen.ge
    have haccepted : Accepted f s := List.take_of_length_le hlen.le ▸ h.accepted
    have hbad := haccepted.bad.trans (decodeChunks_eq_none_iff f).symm
    rcases decodeFrame_cases f with ⟨_, hd⟩ | ⟨_, hnone, hd⟩ | ⟨_, p, hsome, hd⟩
    · exact absurd hlen (length_ne_of_lengthError h.row hd)
    · rw [exchangeResult_of_checksumError hlen hd, frameResult_eq_checksumError hover hcnt (hbad.2 hnone)]
    · rw [exchangeResult_of_ok hlen hd, frameResult_eq_ok hover hcnt (by simpa [hsome] using hbad)]
  · rw [exchangeResult_of_length_ne hlen, frameResult_eq_lengthError]
    by_cases hlong : e.rlen.toNat < f.length
    · exact .inl (by rw [h.overrun, decide_eq_true hlong])
    · exact .inr (mt h.cnt_eq_rlen_iff.1 (by omega))

/-- The data of a frame of the latched length fills the field of the row (spec/42_catalog.md R113). -/
theorem length_frameData_of_row (he : e ∈ catalog) (hlen : f.length = e.rlen.toNat) :
    (frameData f).length = destSize e.dest := by
  obtain ⟨hchunks, hfield, -⟩ := catalog_row he
  rw [length_frameData]
  omega

/-- When the length is right, what would be committed is the data of the frame. -/
theorem Received.payload_eq (h : Received e m f s) (hlen : f.length = e.rlen.toNat) : s.payload = frameData f := by
  obtain ⟨hchunks, hfield, -⟩ := catalog_row h.row
  have hsize := destSize_le_stgBytes e.dest
  have haccepted : Accepted f s := List.take_of_length_le hlen.le ▸ h.accepted
  rw [eq_frameData_iff f _ (by omega), State.payload_length, h.rlen]
  refine ⟨by omega, fun k hk hk2 => ?_⟩
  rw [List.getD_eq_getElem?_getD, List.getD_eq_getElem?_getD, State.payload, h.rlen,
    List.getElem?_take_of_lt (by omega), Vector.getElem?_toList, haccepted.staged k hk hk2]

/-- END of an exchange that is not OK rejects it with the cause. -/
theorem Received.exec_endFrame_of_ne (h : Received e m f s) (hbad : exchangeResult e f ≠ .ok) :
    exec .endFrame s = .next (raise (exchangeResult e f) s) :=
  execEnd_of_cause h.phase h.frameResult_eq hbad

theorem Received.exec_endFrame_of_ok (h : Received e m f s) (hok : exchangeResult e f = .ok) :
    exec .endFrame s = .next { s with snap := (commit s).snap, phase := .validated, result := .ok, res := 1 } :=
  execEnd_of_ok h.phase (h.frameResult_eq.trans hok)

/-- The snapshot after the commit: the frame's data in the field of the row, the rest as it was at the beginning. -/
theorem Received.commit_read (h : Received e m f s) (hlen : f.length = e.rlen.toNat) (a : Nat) :
    (commit s).snap.read a =
      if destBase e.dest ≤ a ∧ a < destBase e.dest + destSize e.dest then (frameData f)[a - destBase e.dest]?
      else m.read a := by
  have hsize : s.payload.length = destSize s.dest := by
    rw [h.payload_eq hlen, length_frameData_of_row h.row hlen, h.dest]
  rw [Machine.commit_read s a hsize, h.payload_eq hlen, h.dest, h.snap]

end

/-! ## A whole exchange (spec/43_sequencer.md R128) -/

theorem runInstrs_append_of_run {is js : List Instr} {s u : State} (h : runInstrs is s = .next u) :
    runInstrs (is ++ js) s = runInstrs js u := by
  induction is generalizing s with
  | nil =>
    cases h
    rfl
  | cons i is ih =>
    obtain ⟨v, hi, his⟩ := exec_of_runInstrs_cons h
    rw [List.cons_append, runInstrs_cons_of_exec hi, ih his]

theorem forall_isQuery_of_filter_eq_nil {ops : List Instr} (h : ops.filter (fun i => !i.isQuery) = []) :
    ∀ i ∈ ops, i.isQuery = true := by
  simpa [List.filter_eq_nil_iff] using h

/-- From RECEIVING, the rest of the frame and END, with queries anywhere: there is a state `u` that has received the
whole frame, and the run ends as END in `u` does, up to RES and the model's counter. -/
theorem run_from_received {e : CatalogEntry} {m : Memory} {ops : List Instr} {s : State} {f g : List Byte}
    (h : Received e m f s) (hops : ops.filter (fun i => !i.isQuery) = pseudoFrame g ++ [.endFrame]) :
    ∃ u t v n, Received e m (f ++ g) u ∧ exec .endFrame u = .next t ∧
      runInstrs ops s = .next { t with res := v, freeCount := n } := by
  induction ops generalizing s f g with
  | nil => simp at hops
  | cons i ops ih =>
    by_cases hq : i.isQuery = true
    · obtain ⟨v, n, hnext⟩ := exec_query s i hq
      rw [List.filter_cons_of_neg (by simp [hq])] at hops
      obtain ⟨u, t, v', n', hu, hend, hrun⟩ := ih (h.withAnswer v n) hops
      exact ⟨u, t, v', n', hu, hend, (runInstrs_cons_of_exec hnext).trans hrun⟩
    · rw [List.filter_cons_of_pos (by simp [hq])] at hops
      cases g with
      | nil =>
        obtain ⟨rfl, hrest⟩ := List.cons.inj hops
        obtain ⟨t, hend, -⟩ := exec_effect .endFrame s
        obtain ⟨v, n, hrun⟩ := runInstrs_queries t (forall_isQuery_of_filter_eq_nil hrest)
        exact ⟨s, t, v, n, by rwa [List.append_nil], hend, (runInstrs_cons_of_exec hend).trans hrun⟩
      | cons b g =>
        obtain ⟨rfl, hrest⟩ := List.cons.inj hops
        have hpush : exec (.push b) s = .next (s.acceptByte b).respond := by
          simpa [h.phase] using execPush_cases s b
        obtain ⟨u, t, v, n, hu, hend, hrun⟩ := ih (h.push b) hrest
        rw [List.append_assoc] at hu
        exact ⟨u, t, v, n, hu, hend, (runInstrs_cons_of_exec hpush).trans hrun⟩

/-- The whole exchange from outside RECEIVING: queries, LOAD_CMD, and then as from RECEIVING with no byte yet. -/
theorem run_exchange {s : State} {w : Word16} {e : CatalogEntry} {f : List Byte} {ops : List Instr}
    (hp : s.phase ≠ .receiving) (hw : lookup w = some e)
    (hops : ops.filter (fun i => !i.isQuery) = pseudoExchange w f) :
    ∃ u t v n, Received e s.snap f u ∧ exec .endFrame u = .next t ∧
      runInstrs ops s = .next { t with res := v, freeCount := n } := by
  obtain ⟨qs, rest, rfl, hqs, -, hrest⟩ := List.filter_eq_cons_iff.1 hops
  obtain ⟨v, n, hqueries⟩ := runInstrs_queries s (by simpa using hqs)
  have hload : exec (.loadCmd w) { s with res := v, freeCount := n } = .next (startExchange w e.rlen e.dest _) :=
    execLoadCmd_of_lookup_some hp hw
  have hbegin := received_startExchange (s := { s with res := v, freeCount := n }) hw
  obtain ⟨u, t, v', n', hu, hend, hrun⟩ := run_from_received hbegin hrest
  exact ⟨u, t, v', n', hu, hend,
    (runInstrs_append_of_run hqueries).trans ((runInstrs_cons_of_exec hload).trans hrun)⟩

/-- Settles O35: before END the block has received the frame, and END gives the result of the exchange. -/
theorem exchangeAgreesWithDecodeFrame : Obligations.ExchangeAgreesWithDecodeFrame := by
  intro s w e f ops hp hw hops
  obtain ⟨hrow, hword⟩ := lookup_mem hw
  refine ⟨length_ne_of_lengthError hrow, ?_⟩
  obtain ⟨u, t, v, n, hu, hend, hrun⟩ := run_exchange hp hw hops
  refine ⟨_, hrun, ?_⟩
  have hcmdreg : u.cmdreg = w := hu.cmdreg.trans hword
  by_cases hok : exchangeResult e f = .ok
  · have hlen := length_of_exchangeResult_ok hok
    cases (hu.exec_endFrame_of_ok hok).symm.trans hend
    refine ⟨hcmdreg, hu.rlen, hu.dest, hu.cnt, fun hne => absurd hlen hne, fun _ hd => ?_, fun p _ hd => ?_⟩
    · simp [exchangeResult_of_checksumError hlen hd] at hok
    · obtain ⟨-, hchunks⟩ := (decodeFrame_eq_ok_iff f p).1 hd
      obtain ⟨-, rfl⟩ := (decodeChunks_eq_some_iff f p).1 hchunks
      exact ⟨rfl, rfl, length_frameData_of_row hrow hlen, hu.commit_read hlen⟩
  · cases (hu.exec_endFrame_of_ne hok).symm.trans hend
    refine ⟨hcmdreg, hu.rlen, hu.dest, hu.cnt, fun hne => ?_, fun hlen hd => ?_, fun p hlen hd => ?_⟩
    · exact ⟨rfl, exchangeResult_of_length_ne hne, hu.snap⟩
    · exact ⟨rfl, exchangeResult_of_checksumError hlen hd, hu.snap⟩
    · exact absurd (exchangeResult_of_ok hlen hd) hok

end Sys2Proof

namespace Sys2Proof
open Machine

/-! ## The hidden registers (spec/10_state.md R22 to R26)

Two states that agree on everything else stay so: outside RECEIVING nothing reads the hidden registers, and in
RECEIVING both have received the same frame, which settles what they hold as far as anything reads it. -/

section
variable {s t : State}

/-- Agreement register by register. -/
theorem agreesButHidden_iff :
    s.AgreesButHidden t ↔ t.snap = s.snap ∧ t.cmdreg = s.cmdreg ∧ t.rlen = s.rlen ∧ t.dest = s.dest ∧
      t.phase = s.phase ∧ t.cnt = s.cnt ∧ t.result = s.result ∧ t.res = s.res ∧ t.inputs = s.inputs ∧
      t.freeCount = s.freeCount := by
  cases s
  cases t
  simp [State.AgreesButHidden]

/-- An update that neither reads nor writes a hidden register keeps the agreement. -/
theorem Machine.State.AgreesButHidden.raise (h : s.AgreesButHidden t) (k : Result) :
    (Machine.raise k s).AgreesButHidden (Machine.raise k t) :=
  congrArg (Machine.raise k) h

theorem Machine.State.AgreesButHidden.setCmdreg (h : s.AgreesButHidden t) (w : Word16) :
    (s.setCmdreg w).AgreesButHidden (t.setCmdreg w) :=
  congrArg (State.setCmdreg · w) h

theorem Machine.State.AgreesButHidden.startExchange (h : s.AgreesButHidden t) (w : Word16) (n : BitVec 6) (d : Dest) :
    (Machine.startExchange w n d s).AgreesButHidden (Machine.startExchange w n d t) :=
  congrArg (Machine.startExchange w n d) h

theorem Machine.State.AgreesButHidden.withAnswer (h : s.AgreesButHidden t) (v : Word32) (n : Nat) :
    State.AgreesButHidden { s with res := v, freeCount := n } { t with res := v, freeCount := n } :=
  congrArg (fun u : State => ({ u with res := v, freeCount := n } : State)) h

/-- A query answers the same in states that agree: what it reads is no hidden register. -/
theorem exec_query_of_agrees {i : Instr} (h : s.AgreesButHidden t) (hq : i.isQuery = true) :
    ∃ v n, exec i s = .next { s with res := v, freeCount := n } ∧
      exec i t = .next { t with res := v, freeCount := n } := by
  rw [h]
  cases i with
  | loadCmd | push | endFrame | abort | getProductName | getSerialNumber | getDataReady | readDeviceStatus
  | readAndClearDeviceStatus | readMeasuredValues | startContinuousMeasurement | stopMeasurement | deviceReset
  | startFanCleaning | activateShtHeater => cases hq
  | rdByte a =>
    simp only [exec, execRdByte]
    split <;> exact ⟨_, _, rfl, rfl⟩
  | _ => exact ⟨_, _, rfl, rfl⟩

/-- The simulation: agreement but for the hidden registers and, in RECEIVING, one exchange with one frame. -/
structure SameVisible (s t : State) : Prop where
  agrees : s.AgreesButHidden t
  exchange : s.phase = .receiving → ∃ e m f, Received e m f s ∧ Received e m f t

theorem SameVisible.of_not_receiving (h : s.AgreesButHidden t) (hp : s.phase ≠ .receiving) : SameVisible s t :=
  ⟨h, fun hr => absurd hr hp⟩

theorem SameVisible.phase_eq (h : SameVisible s t) : t.phase = s.phase := by
  obtain ⟨-, -, -, -, hphase, -⟩ := agreesButHidden_iff.1 h.agrees
  exact hphase

theorem SameVisible.res_eq (h : SameVisible s t) : t.res = s.res := by
  obtain ⟨-, -, -, -, -, -, -, hres, -⟩ := agreesButHidden_iff.1 h.agrees
  exact hres

theorem SameVisible.withAnswer (h : SameVisible s t) (v : Word32) (n : Nat) :
    SameVisible { s with res := v, freeCount := n } { t with res := v, freeCount := n } where
  agrees := h.agrees.withAnswer v n
  exchange hp :=
    have ⟨e, m, f, hs, ht⟩ := h.exchange hp
    ⟨e, m, f, hs.withAnswer v n, ht.withAnswer v n⟩

theorem SameVisible.raise (h : s.AgreesButHidden t) (k : Result) :
    SameVisible (Machine.raise k s) (Machine.raise k t) :=
  .of_not_receiving (h.raise k) (by simp [raise_eq])

/-- A new exchange begins the same way in both: CNT, BAD and OVERRUN are cleared, and no byte is received. -/
theorem SameVisible.startExchange (h : s.AgreesButHidden t) {w : Word16} {e : CatalogEntry}
    (hw : lookup w = some e) :
    SameVisible (Machine.startExchange w e.rlen e.dest s) (Machine.startExchange w e.rlen e.dest t) where
  agrees := h.startExchange w e.rlen e.dest
  exchange _ := by
    obtain ⟨hsnap, -⟩ := agreesButHidden_iff.1 h
    exact ⟨e, s.snap, [], received_startExchange hw, hsnap ▸ received_startExchange hw⟩

theorem SameVisible.push (h : SameVisible s t) (hp : s.phase = .receiving) (b : Byte) :
    SameVisible (s.acceptByte b).respond (t.acceptByte b).respond := by
  obtain ⟨e, m, f, hs, ht⟩ := h.exchange hp
  refine ⟨agreesButHidden_iff.2 ?_, fun _ => ⟨e, m, f ++ [b], hs.push b, ht.push b⟩⟩
  have hcnt : (t.acceptByte b).cnt = (s.acceptByte b).cnt :=
    BitVec.eq_of_toNat_eq ((ht.push b).cnt.trans (hs.push b).cnt.symm)
  obtain ⟨hsnap, hcmdreg, hrlen, hdest, hphase, -, hresult, -, hinputs, hfree⟩ := agreesButHidden_iff.1 h.agrees
  simp [State.respond, hsnap, hcmdreg, hrlen, hdest, hphase, hcnt, hresult, hinputs, hfree]

/-- END gives both the verdict of the one frame, and a commit writes its data. -/
theorem SameVisible.exec_endFrame (h : SameVisible s t) (hp : s.phase = .receiving) :
    ∃ s' t', exec .endFrame s = .next s' ∧ exec .endFrame t = .next t' ∧ SameVisible s' t' := by
  obtain ⟨e, m, f, hs, ht⟩ := h.exchange hp
  by_cases hok : exchangeResult e f = .ok
  · refine ⟨_, _, hs.exec_endFrame_of_ok hok, ht.exec_endFrame_of_ok hok, .of_not_receiving ?_ (by simp)⟩
    have hlen := length_of_exchangeResult_ok hok
    have hcommit : (commit t).snap = (commit s).snap := by
      rw [commit, commit, ht.dest, hs.dest]
      split <;> simp [ht.payload_eq hlen, hs.payload_eq hlen, ht.snap, hs.snap]
    obtain ⟨-, hcmdreg, hrlen, hdest, -, hcnt, -, -, hinputs, hfree⟩ := agreesButHidden_iff.1 h.agrees
    exact agreesButHidden_iff.2 ⟨hcommit, hcmdreg, hrlen, hdest, rfl, hcnt, rfl, rfl, hinputs, hfree⟩
  · exact ⟨_, _, hs.exec_endFrame_of_ne hok, ht.exec_endFrame_of_ne hok, .raise h.agrees _⟩

theorem SameVisible.exec_load (h : SameVisible s t) {i : Instr} {w : Word16} (hi : i.commandWord = some w) :
    ∃ s' t', exec i s = .next s' ∧ exec i t = .next t' ∧ SameVisible s' t' := by
  have hphase := h.phase_eq
  by_cases hp : s.phase = .receiving
  · have hword : i.commandWord ≠ none := by simp [hi]
    exact ⟨_, _, exec_load_of_receiving hp hword, exec_load_of_receiving (hphase.trans hp) hword, .raise h.agrees _⟩
  · have hp' : t.phase ≠ .receiving := by rwa [hphase]
    rw [Machine.exec_load s i w hi, Machine.exec_load t i w hi]
    cases hw : lookup w with
    | some e =>
      exact ⟨_, _, execLoadCmd_of_lookup_some hp hw, execLoadCmd_of_lookup_some hp' hw, .startExchange h.agrees hw⟩
    | none =>
      exact ⟨_, _, execLoadCmd_of_lookup_none hp hw, execLoadCmd_of_lookup_none hp' hw,
        .raise (h.agrees.setCmdreg w) _⟩

/-- One operation keeps the simulation. -/
theorem SameVisible.exec (h : SameVisible s t) (i : Instr) :
    ∃ s' t', Machine.exec i s = .next s' ∧ Machine.exec i t = .next t' ∧ SameVisible s' t' := by
  have hphase := h.phase_eq
  rcases Instr_kinds i with hq | ⟨w, hw⟩ | hframeOp
  · obtain ⟨v, n, hs, ht⟩ := exec_query_of_agrees h.agrees hq
    exact ⟨_, _, hs, ht, h.withAnswer v n⟩
  · exact h.exec_load hw
  · by_cases hp : s.phase = .receiving
    · have hp' := hphase.trans hp
      rcases hframeOp with ⟨b, rfl⟩ | rfl | rfl
      · exact ⟨_, _, if_pos hp, if_pos hp', h.push hp b⟩
      · exact h.exec_endFrame hp
      · exact ⟨_, _, execAbort_of_receiving hp, execAbort_of_receiving hp', .raise h.agrees _⟩
    · exact ⟨_, _, exec_stray hp hframeOp, exec_stray (by rwa [hphase]) hframeOp, .raise h.agrees _⟩

end

theorem resTrace_cons_of_exec {i : Instr} {is : List Instr} {s u : State} (h : exec i s = .next u) :
    resTrace (i :: is) s = u.res :: resTrace is u := by
  rw [resTrace, h]

/-- Settles O49, by induction on the operations along the simulation. -/
theorem hiddenRegistersOutsideAnExchangeReachNoResult :
    Obligations.HiddenRegistersOutsideAnExchangeReachNoResult := by
  intro s t ops hp hagrees
  have hsim : SameVisible s t := .of_not_receiving hagrees hp
  clear hp hagrees
  induction ops generalizing s t with
  | nil => exact ⟨rfl, rfl⟩
  | cons i ops ih =>
    obtain ⟨s', t', hs, ht, hsim'⟩ := hsim.exec i
    obtain ⟨htrace, hlen⟩ := ih s' t' hsim'
    rw [resTrace_cons_of_exec hs, resTrace_cons_of_exec ht, hsim'.res_eq, htrace]
    exact ⟨rfl, by rw [← htrace, List.length_cons, hlen, List.length_cons]⟩

end Sys2Proof
